-- ==== Sys2Proof/Word.lean ====
section
/-!
DEFINITION. The bit-vector types the manual's registers and instruction fields have (spec/10_state.md R21 to R27,
spec/30_encoding.md R91).  The machine has nothing smaller than the 24-bit word in storage (spec/20_memory.md R62).
-/

namespace Sys2Proof

/-- A 24-bit word: A, Q, U and every storage location (R21, R22, R27, R29); bit 23 is the sign bit (R9). -/
abbrev Word := BitVec 24

/-- A 15-bit quantity: an address, an index register, P, an operand y, a shift count k, an EXF code (R6, R24, R26). -/
abbrev Addr := BitVec 15

/-- The 3-bit index designator b, or condition designator j, bits 17 to 15 of an instruction word (R91). -/
abbrev Desig := BitVec 3

/-- The 48-bit double-length quantity, AQ or QA (R23). -/
abbrev Long := BitVec 48

/-- One frame of paper tape: seven levels, level 7 the highest bit (R253). -/
abbrev Frame := BitVec 7

end Sys2Proof
end

