-- ==== Sys2Proof/Machine/Arith.lean ====
section
/-!
DEFINITION. The arithmetic and bit operations of spec/00_scope.md R10 to R14, and those the instruction rules name
(`mag`, `key`, `iszero`, the pattern test).
-/

namespace Sys2Proof.Machine

/-- `add_oc(N, x, y)`: N-bit one's complement addition of a subtractive accumulator (R11). -/
def addOc {n : Nat} (x y : BitVec n) : BitVec n :=
  let s := x.toNat + y.toNat
  let s1 := if 2 ^ n ≤ s then s - (2 ^ n - 1) else s
  let s2 := if s1 = 2 ^ n - 1 ∧ ¬(x = BitVec.allOnes n ∧ y = BitVec.allOnes n) then 0 else s1
  BitVec.ofNat n s2

/-- `add24` (R11). -/
def add24 (x y : Word) : Word := addOc x y

/-- `add15` (R11). -/
def add15 (x y : Addr) : Addr := addOc x y

/-- `cpl24`, the one's complement (R10). -/
def cpl24 (x : Word) : Word := ~~~x

/-- `sub24(x, y) = add24(x, cpl24(y))` (R11). -/
def sub24 (x y : Word) : Word := add24 x (cpl24 y)

/-- The sign bit, bit 23 (R10). -/
def signBit (x : Word) : Bool := x.getLsbD 23

/-- `val24`: the value of a one's complement pattern (R10). -/
def val24 (x : Word) : Int := if signBit x then -((cpl24 x).toNat : Int) else (x.toNat : Int)

/-- `val48`: the value of a 48-bit one's complement pattern (R156). -/
def val48 (x : Long) : Int := if x.getLsbD 47 then -((~~~x).toNat : Int) else (x.toNat : Int)

/-- `sext15`: the sign of a 15-bit operand extended through the upper 9 bits (R10). -/
def sext15 (y : Addr) : Word := y.signExtend 24

/-- `inc15` (R13). -/
def inc15 (x : Addr) : Addr := x + 1

/-- `dec15` (R13). -/
def dec15 (x : Addr) : Addr := x - 1

/-- `rotl24(p, n)` (R14). -/
def rotl24 (p : Word) (n : Nat) : Word := p.rotateLeft n

/-- `rotl48(p, n)` (R14). -/
def rotl48 (p : Long) (n : Nat) : Long := p.rotateLeft n

/-- `asr24(p, n)` (R14). -/
def asr24 (p : Word) (n : Nat) : Word := p.sshiftRight n

/-- `asr48(p, n)` (R14). -/
def asr48 (p : Long) (n : Nat) : Long := p.sshiftRight n

/-- `popcount24(p)` (R14). -/
def popcount24 (p : Word) : Nat := (List.range 24).countP (fun i => p.getLsbD i)

/-- A double-length quantity from its halves, the high-order half first (R9, R23). -/
def joinLong (hi lo : Word) : Long := hi ++ lo

/-- Bits 47 to 24. -/
def highHalf (t : Long) : Word := t.extractLsb' 24 24

/-- Bits 23 to 0. -/
def lowHalf (t : Long) : Word := t.extractLsb' 0 24

/-- The address portion of a word, bits 14 to 0 (R63). -/
def addressPart (w : Word) : Addr := w.extractLsb' 0 15

/-- The word with its address portion replaced and bits 23 to 15 kept (R15, R63). -/
def withAddressPart (w : Word) (v : Addr) : Word := w.extractLsb' 15 9 ++ v

/-- `iszero(p)`: positive or negative zero. -/
def isZero (p : Word) : Bool := p == 0 || p == BitVec.allOnes 24

/-- `key(p)`: orders the patterns as values, negative zero just below positive zero (spec/47). -/
def key (p : Word) : Int := if signBit p then (p.toNat : Int) - 2 ^ 24 else (p.toNat : Int)

/-- `mag(x)` (R152). -/
def mag (x : Word) : Word := if signBit x then cpl24 x else x

/-- `mag48(d)` (R153). -/
def mag48 (d : Long) : Long := if d.getLsbD 47 then ~~~d else d

/-- The n-th octal digit of an External Function code, from the right (R99). -/
def octalDigit (n : Nat) (y : Addr) : Nat := y.toNat / 8 ^ n % 8

end Sys2Proof.Machine
end

