-- ==== Sys2Proof/Config.lean ====
section
/-!
DEFINITION. What no rule of the spec fixes: the free values (opaque constants that nothing can evaluate), and the
types of the installation's parameters (spec/00_scope.md R5, R7; spec/92_eei_decisions.md, "Named parameters").
The parameters themselves are plain data in State (`Machine.Installation`), so that a statement about every state
holds for every installation.
-/

namespace Sys2Proof

/-- A word the sources leave without a value (spec/93_implementation_defined.md, "any value"): the n-th one of a run.
Used for A and Q after a divide fault (R153, D11) and for the bits of a 12-bit transmission that reach no equipment
(log entries 6 and 26). -/
opaque Config.freeWord : Nat → Word

/-- A bit the sources leave without a value: the n-th one of a run.  Used for PunchMode and PunchMotor after an
external master clear (R40, D37; log entry 9). -/
opaque Config.freeBit : Nat → Bool

/-- What a storage location that is not installed reads as, where `oob_policy` is `any value` (R61, D1; log entry 4). -/
opaque Config.absentWord : Nat → Addr → Word

/-- `MEM_WORDS`: the three legal sizes of core storage (R5). -/
inductive StorageSize where
  /-- The standard machine. -/
  | words8192
  | words16384
  | words32768
  deriving DecidableEq, Repr

/-- The number of installed words (R5). -/
def StorageSize.words : StorageSize → Nat
  | .words8192 => 8192
  | .words16384 => 16384
  | .words32768 => 32768

/-- `oob_policy`: a reference at or above `MEM_WORDS` (R61, D1). -/
inductive OobPolicy where
  /-- The run has no meaning from that reference on (recommended). -/
  | fault
  /-- The address is taken modulo `MEM_WORDS`. -/
  | wrap
  /-- A read answers an unknown word; a store reaches no installed word. -/
  | anyValue
  deriving DecidableEq, Repr

/-- `word48_order`: which storage word of a 48-bit transmission holds its upper half (R244, D35). -/
inductive Word48Order where
  /-- The lower address holds the upper 24 bits (recommended). -/
  | upperFirst
  | lowerFirst
  deriving DecidableEq, Repr

end Sys2Proof
end

