-- ==== Sys2Proof/Syntax.lean ====
section
/-!
DEFINITION. The instructions: one constructor for every row of spec/opcode_table.json, in the table's order
(spec/30_encoding.md R90, R91, R94, R100).  The operands are the fields of the word: the designator `b` (or `j`) and
the 15-bit base execution address `m`, `y` or `k`.  Every designator value and every address is an operand the
encoding admits, so the field widths are the only well-formedness there is (WellFormed.lean).
-/

namespace Sys2Proof

/-- The repertoire of the 924 (R100), the illegal codes 00, 77 and 52.3 to 52.6 (R101), code 52 with designator 7
(R102), and EXF split by its designator as the table splits it (R99, R235). -/
inductive Instr where
  /-- `00` fault_00: illegal: stops the computer (R271). -/
  | fault00 (b : Desig) (m : Addr)
  /-- `01` ARS: A Right Shift (R181). -/
  | ars (b : Desig) (k : Addr)
  /-- `02` QRS: Q Right Shift (R182). -/
  | qrs (b : Desig) (k : Addr)
  /-- `03` LRS: AQ Right Shift (R183). -/
  | lrs (b : Desig) (k : Addr)
  /-- `04` ENQ: Enter Q (R145). -/
  | enq (b : Desig) (y : Addr)
  /-- `05` ALS: A Left Shift (R186). -/
  | als (b : Desig) (k : Addr)
  /-- `06` QLS: Q Left Shift (R185). -/
  | qls (b : Desig) (k : Addr)
  /-- `07` LLS: AQ Left Shift (R184). -/
  | lls (b : Desig) (k : Addr)
  /-- `10` ENA: Enter A (R144). -/
  | ena (b : Desig) (y : Addr)
  /-- `11` INA: Increase A (R161). -/
  | ina (b : Desig) (y : Addr)
  /-- `12` LDA: Load A (R131). -/
  | lda (b : Desig) (m : Addr)
  /-- `13` LAC: Load A Complement (R132). -/
  | lac (b : Desig) (m : Addr)
  /-- `14` ADD: Add (R150). -/
  | add (b : Desig) (m : Addr)
  /-- `15` SUB: Subtract (R151). -/
  | sub (b : Desig) (m : Addr)
  /-- `16` LDQ: Load Q (R133). -/
  | ldq (b : Desig) (m : Addr)
  /-- `17` LQC: Load Q Complement (R134). -/
  | lqc (b : Desig) (m : Addr)
  /-- `20` STA: Store A (R135). -/
  | sta (b : Desig) (m : Addr)
  /-- `21` STQ: Store Q (R136). -/
  | stq (b : Desig) (m : Addr)
  /-- `22` AJP: A Jump (R218). -/
  | ajp (j : Desig) (m : Addr)
  /-- `23` QJP: Q Jump (R219). -/
  | qjp (j : Desig) (m : Addr)
  /-- `24` MUI: Multiply (R152). -/
  | mui (b : Desig) (m : Addr)
  /-- `25` DVI: Divide (R153). -/
  | dvi (b : Desig) (m : Addr)
  /-- `26` ATI: A to Index (R146). -/
  | ati (b : Desig) (m : Addr)
  /-- `27` QTI: Q to Index (R147). -/
  | qti (b : Desig) (m : Addr)
  /-- `30` SKH: Skip High (R211). -/
  | skh (b : Desig) (y : Addr)
  /-- `31` SKL: Skip Low (R212). -/
  | skl (b : Desig) (y : Addr)
  /-- `32` UJP: Unconditional Jump (R222). -/
  | ujp (b : Desig) (m : Addr)
  /-- `33` URJ: Unconditional Return Jump (R224). -/
  | urj (b : Desig) (m : Addr)
  /-- `34` SCA: Scale A (R188). -/
  | sca (b : Desig) (k : Addr)
  /-- `35` SCQ: Scale AQ (R189). -/
  | scq (b : Desig) (k : Addr)
  /-- `36` SSK: Storage Skip (R207). -/
  | ssk (b : Desig) (m : Addr)
  /-- `37` SSH: Storage Shift (R208). -/
  | ssh (b : Desig) (m : Addr)
  /-- `40` SST: Selective Set (R166). -/
  | sst (b : Desig) (m : Addr)
  /-- `41` SCL: Selective Clear (R168). -/
  | scl (b : Desig) (m : Addr)
  /-- `42` SCM: Selective Complement (R167). -/
  | scm (b : Desig) (m : Addr)
  /-- `43` SSU: Selective Substitute (R169). -/
  | ssu (b : Desig) (m : Addr)
  /-- `44` LDL: Load Logical (R170). -/
  | ldl (b : Desig) (m : Addr)
  /-- `45` ADL: Add Logical (R171). -/
  | adl (b : Desig) (m : Addr)
  /-- `46` SBL: Subtract Logical (R172). -/
  | sbl (b : Desig) (m : Addr)
  /-- `47` STL: Store Logical (R173). -/
  | stl (b : Desig) (m : Addr)
  /-- `50` ENI: Enter Index (R148). -/
  | eni (b : Desig) (y : Addr)
  /-- `51` INI: Increase Index (R162). -/
  | ini (b : Desig) (y : Addr)
  /-- `52 0` XAQ: Interchange A and Q (R137). -/
  | xaq (m : Addr)
  /-- `52 1` CMA: Complement A (R174). -/
  | cma (m : Addr)
  /-- `52 2` CMQ: Complement Q (R175). -/
  | cmq (m : Addr)
  /-- `52 3` fault_52.3: illegal: stops the computer (R271). -/
  | fault52d3 (m : Addr)
  /-- `52 4` fault_52.4: illegal: stops the computer (R271). -/
  | fault52d4 (m : Addr)
  /-- `52 5` fault_52.5: illegal: stops the computer (R271). -/
  | fault52d5 (m : Addr)
  /-- `52 6` fault_52.6: illegal: stops the computer (R271). -/
  | fault52d6 (m : Addr)
  /-- `52 7` 52_indirect: designator and address taken from storage, then as above (R102). -/
  | indirect52 (m : Addr)
  /-- `53` LIL: Load Index (R141). -/
  | lil (b : Desig) (m : Addr)
  /-- `54` ISK: Index Skip (R210). -/
  | isk (b : Desig) (y : Addr)
  /-- `55` IJP: Index Jump (R223). -/
  | ijp (b : Desig) (m : Addr)
  /-- `56` INQ: Increase Q (R163). -/
  | inq (b : Desig) (y : Addr)
  /-- `57` SIL: Store Index (R142). -/
  | sil (b : Desig) (m : Addr)
  /-- `60` XEC: Execute (R225). -/
  | xec (b : Desig) (m : Addr)
  /-- `61` SAL: Substitute Address (R143). -/
  | sal (b : Desig) (m : Addr)
  /-- `62` TAL: Tally (R154). -/
  | tal (b : Desig) (m : Addr)
  /-- `63` PTS: Pattern Search (R205). -/
  | pts (b : Desig) (m : Addr)
  /-- `64` EQS: Equality Search (R201). -/
  | eqs (b : Desig) (m : Addr)
  /-- `65` THS: Threshold Search (R202). -/
  | ths (b : Desig) (m : Addr)
  /-- `66` MEQ: Masked Equality (R203). -/
  | meq (b : Desig) (m : Addr)
  /-- `67` MTH: Masked Threshold (R204). -/
  | mth (b : Desig) (m : Addr)
  /-- `70` RAD: Replace Add (R196). -/
  | rad (b : Desig) (m : Addr)
  /-- `71` RSB: Replace Subtract (R197). -/
  | rsb (b : Desig) (m : Addr)
  /-- `72` RAO: Replace Add One (R198). -/
  | rao (b : Desig) (m : Addr)
  /-- `73` RSO: Replace Subtract One (R199). -/
  | rso (b : Desig) (m : Addr)
  /-- `74 0` EXF.select: External Function (R236). -/
  | exfSelect (y : Addr)
  /-- `74 1` EXF.activate1: External Function (R238). -/
  | exfActivate1 (y : Addr)
  /-- `74 2` EXF.activate2: External Function (R238). -/
  | exfActivate2 (y : Addr)
  /-- `74 3` EXF.activate3: External Function (R238). -/
  | exfActivate3 (y : Addr)
  /-- `74 4` EXF.activate4: External Function (R238). -/
  | exfActivate4 (y : Addr)
  /-- `74 5` EXF.activate5: External Function (R238). -/
  | exfActivate5 (y : Addr)
  /-- `74 6` EXF.activate6: External Function (R238). -/
  | exfActivate6 (y : Addr)
  /-- `74 7` EXF.sense: External Function (R237). -/
  | exfSense (y : Addr)
  /-- `75` SLJ: Selective Jump (R220). -/
  | slj (j : Desig) (m : Addr)
  /-- `76` SLS: Selective Stop (R221). -/
  | sls (j : Desig) (m : Addr)
  /-- `77` fault_77: illegal: stops the computer (R271). -/
  | fault77 (b : Desig) (m : Addr)
  deriving DecidableEq, Repr

end Sys2Proof
end

