-- ==== Sys2Proof/WellFormed.lean ====
section
/-!
DEFINITION. Well-formedness.  A term of `Instr` carries fields of exactly the widths of the encoding, and every value
of every field is an operand the spec defines (spec/30_encoding.md R91, R94, R101, R103), so every term is well
formed.  What can be ill formed is an instruction as it is WRITTEN, the numbers `ff b mmmmm` of R105: each of the
three numbers must fit its field.
-/

namespace Sys2Proof

/-- Every field of every constructor has the width of its place in the word, and no encoding reserves a bit (R103). -/
def Instr.wellFormed (_ : Instr) : Bool := true

/-- An instruction in the manual's numerical notation `ff b mmmmm` (R105). -/
structure Written where
  f : Nat
  b : Nat
  m : Nat
  deriving DecidableEq, Repr

/-- Why a written instruction is no word (R91: 6, 3 and 15 bits). -/
inductive WrittenError where
  | operationCodeTooWide (f : Nat)
  | designatorTooWide (b : Nat)
  | addressTooWide (m : Nat)
  deriving DecidableEq, Repr

/-- The check of the three field widths of R91. -/
def Written.check (i : Written) : Except WrittenError Unit :=
  if 64 ≤ i.f then .error (.operationCodeTooWide i.f)
  else if 8 ≤ i.b then .error (.designatorTooWide i.b)
  else if 32768 ≤ i.m then .error (.addressTooWide i.m)
  else .ok ()

/-- A written instruction that names a word. -/
def Written.wellFormed (i : Written) : Bool := i.check.isOk

end Sys2Proof
end

