-- ==== Sys2Proof/Decode.lean ====
section
/-!
DEFINITION. The decoder and the encoder, both written from the operation-code map of spec/30_encoding.md R100 and the
field layout of R91.  Every 24-bit word is some row of the table (R100: "All 64 values of f are accounted for"), so
the decoder of a word is total; what is refused by name is a bit string that is no 24-bit word (R90).
-/

namespace Sys2Proof

/-- The operation code f, bits 23 to 18 (R91). -/
def opField (w : Word) : BitVec 6 := w.extractLsb' 18 6

/-- The index designator b (or j), bits 17 to 15 (R91). -/
def desigField (w : Word) : Desig := w.extractLsb' 15 3

/-- The base execution address, bits 14 to 0 (R91). -/
def addrField (w : Word) : Addr := w.extractLsb' 0 15

/-- The word `f * 2^18 + b * 2^15 + m` (R91). -/
def makeWord (f : BitVec 6) (b : Desig) (m : Addr) : Word := f ++ b ++ m

/-- Code 52: the designator selects among unlike instructions (R102). -/
def decode52 (b : Desig) (m : Addr) : Instr :=
  match b.toNat with
  | 0 => .xaq m
  | 1 => .cma m
  | 2 => .cmq m
  | 3 => .fault52d3 m
  | 4 => .fault52d4 m
  | 5 => .fault52d5 m
  | 6 => .fault52d6 m
  | _ => .indirect52 m

/-- Code 74: the designator selects among select, the six activates and sense (R99, R235). -/
def decode74 (b : Desig) (y : Addr) : Instr :=
  match b.toNat with
  | 0 => .exfSelect y
  | 1 => .exfActivate1 y
  | 2 => .exfActivate2 y
  | 3 => .exfActivate3 y
  | 4 => .exfActivate4 y
  | 5 => .exfActivate5 y
  | 6 => .exfActivate6 y
  | _ => .exfSense y

/-- The map of R100 from the three fields to the instruction. -/
def decodeFields (f : BitVec 6) (b : Desig) (m : Addr) : Instr :=
  match f.toNat with
  | 0o00 => .fault00 b m
  | 0o01 => .ars b m
  | 0o02 => .qrs b m
  | 0o03 => .lrs b m
  | 0o04 => .enq b m
  | 0o05 => .als b m
  | 0o06 => .qls b m
  | 0o07 => .lls b m
  | 0o10 => .ena b m
  | 0o11 => .ina b m
  | 0o12 => .lda b m
  | 0o13 => .lac b m
  | 0o14 => .add b m
  | 0o15 => .sub b m
  | 0o16 => .ldq b m
  | 0o17 => .lqc b m
  | 0o20 => .sta b m
  | 0o21 => .stq b m
  | 0o22 => .ajp b m
  | 0o23 => .qjp b m
  | 0o24 => .mui b m
  | 0o25 => .dvi b m
  | 0o26 => .ati b m
  | 0o27 => .qti b m
  | 0o30 => .skh b m
  | 0o31 => .skl b m
  | 0o32 => .ujp b m
  | 0o33 => .urj b m
  | 0o34 => .sca b m
  | 0o35 => .scq b m
  | 0o36 => .ssk b m
  | 0o37 => .ssh b m
  | 0o40 => .sst b m
  | 0o41 => .scl b m
  | 0o42 => .scm b m
  | 0o43 => .ssu b m
  | 0o44 => .ldl b m
  | 0o45 => .adl b m
  | 0o46 => .sbl b m
  | 0o47 => .stl b m
  | 0o50 => .eni b m
  | 0o51 => .ini b m
  | 0o52 => decode52 b m
  | 0o53 => .lil b m
  | 0o54 => .isk b m
  | 0o55 => .ijp b m
  | 0o56 => .inq b m
  | 0o57 => .sil b m
  | 0o60 => .xec b m
  | 0o61 => .sal b m
  | 0o62 => .tal b m
  | 0o63 => .pts b m
  | 0o64 => .eqs b m
  | 0o65 => .ths b m
  | 0o66 => .meq b m
  | 0o67 => .mth b m
  | 0o70 => .rad b m
  | 0o71 => .rsb b m
  | 0o72 => .rao b m
  | 0o73 => .rso b m
  | 0o74 => decode74 b m
  | 0o75 => .slj b m
  | 0o76 => .sls b m
  | _ => .fault77 b m

/-- The instruction a storage word is (R90, R98, R100). -/
def decode (w : Word) : Instr := decodeFields (opField w) (desigField w) (addrField w)

/-- Why a string of bits is no instruction word. -/
inductive DecodeError where
  /-- An instruction is exactly one 24-bit word (R90). -/
  | notOneWord (nbits : Nat)
  /-- The number does not fit the 24 bits it is said to have. -/
  | doesNotFit (w : Nat)
  deriving DecidableEq, Repr

/-- Decoding of `nbits` bits numbered from the least significant; the machine has one word length (R90, R104). -/
def decodeBits (nbits w : Nat) : Except DecodeError Instr :=
  if nbits = 24 then
    if w < 2 ^ 24 then .ok (decode (BitVec.ofNat 24 w)) else .error (.doesNotFit w)
  else .error (.notOneWord nbits)

/-- What the decoder reads from an instruction of the opcode table's numbering. -/
def decodeTableWord (nbits w : Nat) : Option Instr := (decodeBits nbits w).toOption

/-- The word of an instruction (R91, R100). -/
def encode : Instr → Word
  | .fault00 b m => makeWord 0o00 b m
  | .ars b k => makeWord 0o01 b k
  | .qrs b k => makeWord 0o02 b k
  | .lrs b k => makeWord 0o03 b k
  | .enq b y => makeWord 0o04 b y
  | .als b k => makeWord 0o05 b k
  | .qls b k => makeWord 0o06 b k
  | .lls b k => makeWord 0o07 b k
  | .ena b y => makeWord 0o10 b y
  | .ina b y => makeWord 0o11 b y
  | .lda b m => makeWord 0o12 b m
  | .lac b m => makeWord 0o13 b m
  | .add b m => makeWord 0o14 b m
  | .sub b m => makeWord 0o15 b m
  | .ldq b m => makeWord 0o16 b m
  | .lqc b m => makeWord 0o17 b m
  | .sta b m => makeWord 0o20 b m
  | .stq b m => makeWord 0o21 b m
  | .ajp j m => makeWord 0o22 j m
  | .qjp j m => makeWord 0o23 j m
  | .mui b m => makeWord 0o24 b m
  | .dvi b m => makeWord 0o25 b m
  | .ati b m => makeWord 0o26 b m
  | .qti b m => makeWord 0o27 b m
  | .skh b y => makeWord 0o30 b y
  | .skl b y => makeWord 0o31 b y
  | .ujp b m => makeWord 0o32 b m
  | .urj b m => makeWord 0o33 b m
  | .sca b k => makeWord 0o34 b k
  | .scq b k => makeWord 0o35 b k
  | .ssk b m => makeWord 0o36 b m
  | .ssh b m => makeWord 0o37 b m
  | .sst b m => makeWord 0o40 b m
  | .scl b m => makeWord 0o41 b m
  | .scm b m => makeWord 0o42 b m
  | .ssu b m => makeWord 0o43 b m
  | .ldl b m => makeWord 0o44 b m
  | .adl b m => makeWord 0o45 b m
  | .sbl b m => makeWord 0o46 b m
  | .stl b m => makeWord 0o47 b m
  | .eni b y => makeWord 0o50 b y
  | .ini b y => makeWord 0o51 b y
  | .xaq m => makeWord 0o52 0 m
  | .cma m => makeWord 0o52 1 m
  | .cmq m => makeWord 0o52 2 m
  | .fault52d3 m => makeWord 0o52 3 m
  | .fault52d4 m => makeWord 0o52 4 m
  | .fault52d5 m => makeWord 0o52 5 m
  | .fault52d6 m => makeWord 0o52 6 m
  | .indirect52 m => makeWord 0o52 7 m
  | .lil b m => makeWord 0o53 b m
  | .isk b y => makeWord 0o54 b y
  | .ijp b m => makeWord 0o55 b m
  | .inq b y => makeWord 0o56 b y
  | .sil b m => makeWord 0o57 b m
  | .xec b m => makeWord 0o60 b m
  | .sal b m => makeWord 0o61 b m
  | .tal b m => makeWord 0o62 b m
  | .pts b m => makeWord 0o63 b m
  | .eqs b m => makeWord 0o64 b m
  | .ths b m => makeWord 0o65 b m
  | .meq b m => makeWord 0o66 b m
  | .mth b m => makeWord 0o67 b m
  | .rad b m => makeWord 0o70 b m
  | .rsb b m => makeWord 0o71 b m
  | .rao b m => makeWord 0o72 b m
  | .rso b m => makeWord 0o73 b m
  | .exfSelect y => makeWord 0o74 0 y
  | .exfActivate1 y => makeWord 0o74 1 y
  | .exfActivate2 y => makeWord 0o74 2 y
  | .exfActivate3 y => makeWord 0o74 3 y
  | .exfActivate4 y => makeWord 0o74 4 y
  | .exfActivate5 y => makeWord 0o74 5 y
  | .exfActivate6 y => makeWord 0o74 6 y
  | .exfSense y => makeWord 0o74 7 y
  | .slj j m => makeWord 0o75 j m
  | .sls j m => makeWord 0o76 j m
  | .fault77 b m => makeWord 0o77 b m

/-- The word a written instruction `ff b mmmmm` stands for, where its numbers fit (R91, R105). -/
def Written.word (i : Written) : Option Word :=
  if i.wellFormed then
    some (makeWord (BitVec.ofNat 6 i.f) (BitVec.ofNat 3 i.b) (BitVec.ofNat 15 i.m))
  else none

end Sys2Proof
end

