-- ==== Sys2Proof/Machine/State.lean ====
section
/-!
DEFINITION. The machine's state as plain data (spec/10_state.md), the reasons a step can stop, and the state after
both master clears (R42, spec/70_reset_and_hazards.md R312).

What belongs to the environment (spec/10_state.md R36, R37; spec/92_eei_decisions.md D16, D20, D21) is held as lists
the step reads: the schedule of what happens at each instruction boundary, and what the equipment has been sent.
-/

namespace Sys2Proof.Machine

/-- The index registers B1 to B6 (R24); there is no register 0 and no register 7 (R25). -/
inductive Index where
  | b1 | b2 | b3 | b4 | b5 | b6
  deriving DecidableEq, Repr

/-- The contents of the six index registers (R24). -/
structure IndexRegs where
  b1 : Addr
  b2 : Addr
  b3 : Addr
  b4 : Addr
  b5 : Addr
  b6 : Addr
  deriving DecidableEq, Repr

/-- The six buffer channels (R239). -/
inductive Channel where
  | c1 | c2 | c3 | c4 | c5 | c6
  deriving DecidableEq, Repr

/-- The input channels (R239). -/
inductive InChannel where
  | c1 | c3 | c5
  deriving DecidableEq, Repr

/-- The output channels (R239). -/
inductive OutChannel where
  | c2 | c4 | c6
  deriving DecidableEq, Repr

/-- One bit for each channel. -/
structure PerChannel where
  c1 : Bool
  c2 : Bool
  c3 : Bool
  c4 : Bool
  c5 : Bool
  c6 : Bool
  deriving DecidableEq, Repr

/-- The three pairs of channels that share a buffer mode (R34, R247). -/
inductive Pair where
  | p12 | p34 | p56
  deriving DecidableEq, Repr

/-- The buffer modes (R34, R244). -/
inductive BufMode where
  /-- 24-bit mode. -/
  | bits24
  /-- 160 mode. -/
  | bits12
  /-- 1604 mode. -/
  | bits48
  deriving DecidableEq, Repr

/-- `BufMode` of each pair (R34). -/
structure Modes where
  p12 : BufMode
  p34 : BufMode
  p56 : BufMode
  deriving DecidableEq, Repr

/-- External equipment (R255): the kinds whose select codes the manual prints whole, and what else the installation has,
by a number of its own. -/
inductive External where
  | tape1607
  | cards1609
  | typewriter161
  | printer1612
  | other (n : Nat)
  deriving DecidableEq, Repr

/-- An equipment that can use a channel (R239, R259): the console's reader or punch, or an external one. -/
inductive Equipment where
  | reader
  | punch
  | external (x : External)
  deriving DecidableEq, Repr

/-- A selection of an equipment on a channel: the equipment, and the channel digit of the code that made it, which is
that of the channel clear that drops it (R248). -/
structure Selection where
  equipment : Equipment
  digit : Channel
  deriving DecidableEq, Repr

/-- The last selection made on each channel and not cleared since (R241, R248, R259; log entry 36). -/
structure Users where
  c1 : Option Selection
  c2 : Option Selection
  c3 : Option Selection
  c4 : Option Selection
  c5 : Option Selection
  c6 : Option Selection
  deriving DecidableEq, Repr

/-- Mode of the paper tape reader or punch (R35). -/
inductive TapeMode where
  | assembly
  | character
  deriving DecidableEq, Repr

/-- `RunState` (R36, R270). -/
inductive RunState where
  | running
  | stopped
  deriving DecidableEq, Repr

/-- The three jump keys, and the three stop keys (R36). -/
inductive Key where
  | k1 | k2 | k3
  deriving DecidableEq, Repr

/-- Which of three keys are set (R36). -/
structure Keys where
  k1 : Bool
  k2 : Bool
  k3 : Bool
  deriving DecidableEq, Repr

/-- Core storage (R29): the words that differ from what an unlisted location reads as, by rising address. -/
abbrev Memory := List (Nat × Word)

/-- What a storage location reads as that nothing has written (log entry 2). -/
def Memory.unlisted : Word := 0

/-- The entries lie at rising addresses from `lo` on, below 2^15, and none of them holds the unlisted word. -/
def Memory.risingFrom : Nat → Memory → Bool
  | _, [] => true
  | lo, (k, v) :: rest =>
    decide (lo ≤ k) && decide (k < 32768) && decide (v ≠ Memory.unlisted) && Memory.risingFrom (k + 1) rest

/-- The canonical form of storage: equal storage contents are equal lists. -/
def Memory.wf (m : Memory) : Bool := Memory.risingFrom 0 m

/-- The fault indicators of the console (R30, R31). -/
structure Indicators where
  divide : Bool
  shift : Bool
  overflow : Bool
  oddStorage : Bool
  evenStorage : Bool
  deriving DecidableEq, Repr

/-- The interrupt's control state (R32, R33, R45). -/
structure InterruptControl where
  /-- `InterruptLockout` (R32). -/
  lockout : Bool
  /-- `SelChanInactive[1..6]` (R33). -/
  selInactive : PerChannel
  /-- `SelArithFault` (R33). -/
  selArith : Bool
  /-- `SelRTC` (R33). -/
  selRtc : Bool
  /-- `RtcRequest` (R45). -/
  rtcRequest : Bool
  /-- The interrupt's condition held at the last boundary, when all that was due there was done, and the entry was put
  off: it may not be put off again (R281, `interrupt_latency`).  The model's own bit (log entry 14). -/
  deferred : Bool
  deriving DecidableEq, Repr

/-- The buffer channels' control state (R34). -/
structure ChannelControl where
  /-- `ChanActive[1..6]`. -/
  active : PerChannel
  /-- `BufMode[1-2]`, `BufMode[3-4]`, `BufMode[5-6]`. -/
  mode : Modes
  /-- The equipment selected on each channel: "only one external equipment can use any one buffer channel" (R259).  The
  spec's selections made on a channel (R248), held in the model's own form (log entry 36). -/
  user : Users
  deriving DecidableEq, Repr

/-- The console's paper tape reader and punch (R35). -/
structure Console where
  readerSelected : Bool
  /-- `ReaderEOT`: the end-of-tape indicator. -/
  readerEot : Bool
  /-- `SelReaderEOTInt`. -/
  selReaderEotInt : Bool
  readerMode : TapeMode
  readerMotor : Bool
  /-- A reader select 112xx has been given and channel 1 not activated since: a mode select other than 24-bit for the
  pair 1-2 is "illegal" then (R249).  The model's own bit (log entry 21). -/
  readerArmed : Bool
  punchSelected : Bool
  punchMode : TapeMode
  punchMotor : Bool
  /-- The punch's SELECT switch is locked up: "Enables use of punch" (R251, R316). -/
  punchEnabled : Bool
  /-- The micro-switch of the paper supply (R252). -/
  punchOutOfTape : Bool
  deriving DecidableEq, Repr

/-- The operator's panel and the run control (R36, R43, R44, R270, R291). -/
structure Panel where
  jumpKey : Keys
  stopKey : Keys
  run : RunState
  /-- `SlsPending` (R44). -/
  slsPending : Bool
  /-- Step mode: the computer stops after one instruction (R291). -/
  stepOne : Bool
  /-- The operator has set U since the last stop, so a step executes U in place of a fetch (R291, D39). -/
  uSet : Bool
  deriving DecidableEq, Repr

/-- A request of one equipment to the buffer agent (R241, R242, R253, R254); its time is the environment's (D21). -/
inductive Transfer where
  /-- External equipment on an input channel offers a datum; the mode takes its low 24 or 12 bits, or all 48 (R244). -/
  | offer (c : InChannel) (x : External) (data : Long)
  /-- External equipment on an output channel asks for a word (R242). -/
  | request (c : OutChannel) (x : External)
  /-- The paper tape reader comes to its next character or word (R253). -/
  | reader
  /-- The paper tape punch asks for its next word (R254). -/
  | punch
  deriving DecidableEq, Repr

/-- What the environment or the operator does at an instruction boundary. -/
inductive Event where
  /-- A buffer request is served (R241, R242, R257). -/
  | transfer (t : Transfer)
  /-- The real-time clock's 100 millisecond pulse (R289). -/
  | clockPulse
  /-- Equipment on a channel raises or drops the interrupt line (R290). -/
  | interruptLine (c : Channel) (on : Bool)
  /-- A condition named by an external sense code arises or goes away (R255, D20). -/
  | condition (code : Addr) (present : Bool)
  /-- CLEAR down: internal master clear (R310). -/
  | clearInternal
  /-- CLEAR up: external master clear (R311). -/
  | clearExternal
  /-- START (R270). -/
  | start
  /-- STEP (R291). -/
  | step
  /-- The operator changes a register (R43). -/
  | setA (w : Word)
  | setQ (w : Word)
  | setB (i : Index) (v : Addr)
  | setP (v : Addr)
  | setU (w : Word)
  /-- The jump keys and the stop keys (R36). -/
  | jumpKey (k : Key) (on : Bool)
  | stopKey (k : Key) (on : Bool)
  /-- The reader's manual mode switch (R253). -/
  | readerMode (m : TapeMode)
  /-- The reader's motor switch (R35). -/
  | readerMotor (on : Bool)
  /-- Tape is put into the reader (R253). -/
  | loadTape (frames : List Frame)
  /-- The punch's motor switch (R316). -/
  | punchMotor (on : Bool)
  /-- The punch's SELECT switch (R251, R316). -/
  | punchSwitch (on : Bool)
  /-- The micro-switch of the punch's paper supply (R252). -/
  | punchOutOfTape (on : Bool)
  deriving DecidableEq, Repr

/-- What happens at one instruction boundary (D16): events before the interrupt line is looked at, whether the
scanner is late in seeing the interrupt, and buffer requests served after it has looked (R286 gives no order). -/
structure Boundary where
  events : List Event
  late : Bool
  after : List Transfer
  deriving DecidableEq, Repr

/-- What the equipment on an output channel is sent (R242, R244). -/
inductive Sent where
  /-- 24-bit mode. -/
  | word24 (c : OutChannel) (w : Word)
  /-- 160 mode: the Function Ready signal (bit 23) and twelve bits (R244, R256). -/
  | word12 (c : OutChannel) (functionReady : Bool) (w : BitVec 12)
  /-- 1604 mode. -/
  | word48 (c : OutChannel) (w : Long)
  deriving DecidableEq, Repr

/-- The environment (R37, D16, D20, D21): what it will do, what it answers, and what it has received. -/
structure Environment where
  /-- The coming boundaries, the next one first; past the end nothing happens any more. -/
  schedule : List Boundary
  /-- The buffer requests served between the words of the coming searches, the next gap first (R72, R200). -/
  searchRequests : List (List Transfer)
  /-- The external sense codes whose condition is present (R255). -/
  conditions : List Addr
  /-- The channels whose equipment holds the interrupt line up; `ExtInterrupt` is their OR (R280, R290; log entry 28). -/
  interrupt : PerChannel
  /-- The select codes delivered to external equipment, oldest first (R255). -/
  delivered : List Addr
  /-- The words sent to external equipment, oldest first (R242). -/
  sent : List Sent
  /-- The frames of the tape still to be read (R253). -/
  tape : List Frame
  /-- The frames punched, oldest first (R254). -/
  punched : List Frame
  deriving DecidableEq, Repr

/-- A select code of the installation's own: the number of the equipment it selects, and whether it selects it on both
channels of the pair or on that of its channel digit alone. -/
structure OtherSelect where
  code : Addr
  equipment : Nat
  both : Bool
  deriving DecidableEq, Repr

/-- The parameters of the installation (R5, R7); no step changes them. -/
structure Installation where
  /-- `MEM_WORDS`. -/
  size : StorageSize
  /-- `oob_policy`. -/
  oob : OobPolicy
  /-- `inq_sets_overflow`. -/
  inqSetsOverflow : Bool
  /-- `rtc_pulse_latched`. -/
  rtcPulseLatched : Bool
  /-- `word48_order`. -/
  word48 : Word48Order
  /-- The select codes by which the installation selects equipment whose codes the manual does not print whole (1608,
  1610) or does not list: "a parameter of the installation" (R255; log entry 36). -/
  otherSelects : List OtherSelect
  deriving DecidableEq, Repr

/-- Everything the spec gives the machine (INVENTORY.md, "State"). -/
structure State where
  /-- A, the accumulator (R21). -/
  a : Word
  /-- Q, the auxiliary arithmetic register (R22). -/
  q : Word
  /-- B1 to B6 (R24). -/
  b : IndexRegs
  /-- P, the program address counter (R26). -/
  p : Addr
  /-- U, the program control register (R27). -/
  u : Word
  /-- Core storage (R29). -/
  mem : Memory
  /-- The fault indicators (R30, R31). -/
  ind : Indicators
  /-- Interrupt lockout, selections and clock request (R32, R33, R45). -/
  intr : InterruptControl
  /-- Channel activity and buffer modes (R34). -/
  chan : ChannelControl
  /-- Reader and punch (R35). -/
  con : Console
  /-- Operator's panel and run control (R36, R44). -/
  panel : Panel
  /-- The environment (R37). -/
  env : Environment
  /-- The installation's parameters (R5, R7). -/
  inst : Installation
  /-- How many free values have been used: the model's own counter (log entry 6). -/
  free : Nat
  deriving DecidableEq, Repr

/-- The reasons the model gives no next state because the machine makes none. -/
inductive Fault where
  /-- A reference to a location that is not installed, under `oob_policy` = `fault` (R61, D1).  Raised by the storage
  operations.  Safe: nothing is claimed about such a run. -/
  | storageAbsent (a : Addr)
  /-- A chain of indirect addresses that never ends: the computer hangs until master cleared (R96, D6).  Raised by
  `State.resolve`.  Safe. -/
  | endlessIndirect
  /-- A chain of XEC instructions that never ends: the computer hangs (R226(e)).  Raised by `execXec`.  Safe. -/
  | endlessExecute
  deriving DecidableEq, Repr

/-- The reasons the model rejects a run, each one that spec/93_implementation_defined.md says to refuse.  All are
safe: the model claims nothing about the rest of the run. -/
inductive Refusal where
  /-- An arm of `exec` that has no meaning yet. -/
  | notModelled (mnemonic : String)
  /-- ISK, SKH or SKL with designator 0: no register to compare (D14).  Raised by those three. -/
  | noIndexRegister
  /-- An External Function code that no list names and no external equipment can have (R258(b), D27).  Raised by EXF. -/
  | unlistedCode (y : Addr)
  /-- A buffer-mode select other than 24-bit on channels 1 and 2 between the reader select and the activate (R249).
  Raised by EXF select. -/
  | modeAfterReaderSelect
  /-- A buffer-mode select while a channel of the pair is active (R247).  Raised by EXF select. -/
  | modeWhileActive
  /-- An activate of an active channel with an address other than its terminal address (R259, D26).  Raised by EXF
  activate. -/
  | activateActive
  /-- Two equipments on one channel at once: a second one selected on a channel whose buffer is active and used by
  another, or one that asks for a transfer there (R239, R259).  Raised by EXF select and by the buffer agent. -/
  | secondEquipment
  /-- A 48-bit buffer of odd length (R244, D35).  Raised by the buffer agent. -/
  | oddBuffer48
  /-- A register changed by the operator while the computer runs (R43).  Raised by an operator's event. -/
  | changeWhileRunning
  /-- P or U changed by the operator while stopped inside an SLS (R221).  Raised by an operator's event. -/
  | changeInsideSls
  deriving DecidableEq, Repr

/-- The outcome of an instruction or of a step. -/
abbrev Result := Host.Outcome State Fault Refusal

/-- The state after the internal and the external master clear (R42, R312).  The values that R42 leaves "unspecified"
or "as the switches stand" are the model's (log entries 2, 5, 8, 9, 10, 11 and 36). -/
def State.reset : State where
  a := 0
  q := 0
  b := ⟨0, 0, 0, 0, 0, 0⟩
  p := 0
  u := 0
  mem := []
  ind :=
    { divide := false, shift := false, overflow := false, oddStorage := false, evenStorage := false }
  intr :=
    { lockout := false, selInactive := ⟨false, false, false, false, false, false⟩, selArith := false, selRtc := false,
      rtcRequest := false, deferred := false }
  chan :=
    { active := ⟨false, false, false, false, false, false⟩, mode := ⟨.bits24, .bits24, .bits24⟩,
      user := ⟨some ⟨.reader, .c1⟩, none, none, none, none, none⟩ }
  con :=
    { readerSelected := true, readerEot := true, selReaderEotInt := false, readerMode := .assembly,
      readerMotor := false, readerArmed := false, punchSelected := false, punchMode := .assembly, punchMotor := false,
      punchEnabled := false, punchOutOfTape := false }
  panel :=
    { jumpKey := ⟨false, false, false⟩, stopKey := ⟨false, false, false⟩, run := .stopped, slsPending := false,
      stepOne := false, uSet := false }
  env :=
    { schedule := [], searchRequests := [], conditions := [],
      interrupt := ⟨false, false, false, false, false, false⟩, delivered := [], sent := [], tape := [], punched := [] }
  inst :=
    { size := .words8192, oob := .fault, inqSetsOverflow := false, rtcPulseLatched := true, word48 := .upperFirst,
      otherSelects := [] }
  free := 0

end Sys2Proof.Machine
end

