-- ==== Sys2Proof/Machine/Ops.lean ====
section
/-!
DEFINITION. The named operations over registers, storage and control state; the exits of an instruction
(spec/00_scope.md R16); the stop, the interrupt entry and the end of the lockout (spec/60_exceptions.md R270, R282,
R283).
-/

namespace Sys2Proof.Machine

/-! ### Banks of registers and bits -/

/-- The register a designator names; 0 and 7 name none (R25). -/
def indexOf (d : Desig) : Option Index :=
  match d.toNat with
  | 1 => some .b1
  | 2 => some .b2
  | 3 => some .b3
  | 4 => some .b4
  | 5 => some .b5
  | 6 => some .b6
  | _ => none

/-- (Bb). -/
def IndexRegs.get (r : IndexRegs) : Index → Addr
  | .b1 => r.b1
  | .b2 => r.b2
  | .b3 => r.b3
  | .b4 => r.b4
  | .b5 => r.b5
  | .b6 => r.b6

/-- Bb ← v. -/
def IndexRegs.set (r : IndexRegs) (i : Index) (v : Addr) : IndexRegs :=
  match i with
  | .b1 => { r with b1 := v }
  | .b2 => { r with b2 := v }
  | .b3 => { r with b3 := v }
  | .b4 => { r with b4 := v }
  | .b5 => { r with b5 := v }
  | .b6 => { r with b6 := v }

/-- The channel a digit 1 to 6 names (R235, R239). -/
def channelOf (d : Nat) : Option Channel :=
  match d with
  | 1 => some .c1
  | 2 => some .c2
  | 3 => some .c3
  | 4 => some .c4
  | 5 => some .c5
  | 6 => some .c6
  | _ => none

/-- The number of a channel (R239). -/
def Channel.number : Channel → Nat
  | .c1 => 1
  | .c2 => 2
  | .c3 => 3
  | .c4 => 4
  | .c5 => 5
  | .c6 => 6

/-- The pair a channel belongs to (R239). -/
def Channel.pair : Channel → Pair
  | .c1 => .p12
  | .c2 => .p12
  | .c3 => .p34
  | .c4 => .p34
  | .c5 => .p56
  | .c6 => .p56

/-- The other channel of the pair (R239). -/
def Channel.partner : Channel → Channel
  | .c1 => .c2
  | .c2 => .c1
  | .c3 => .c4
  | .c4 => .c3
  | .c5 => .c6
  | .c6 => .c5

/-- The channel is an input channel (R239). -/
def Channel.isInput : Channel → Bool
  | .c1 | .c3 | .c5 => true
  | .c2 | .c4 | .c6 => false

/-- An input channel as a channel. -/
def InChannel.channel : InChannel → Channel
  | .c1 => .c1
  | .c3 => .c3
  | .c5 => .c5

/-- An output channel as a channel. -/
def OutChannel.channel : OutChannel → Channel
  | .c2 => .c2
  | .c4 => .c4
  | .c6 => .c6

/-- The bit of a channel. -/
def PerChannel.get (r : PerChannel) : Channel → Bool
  | .c1 => r.c1
  | .c2 => r.c2
  | .c3 => r.c3
  | .c4 => r.c4
  | .c5 => r.c5
  | .c6 => r.c6

/-- Sets the bit of a channel. -/
def PerChannel.set (r : PerChannel) (c : Channel) (v : Bool) : PerChannel :=
  match c with
  | .c1 => { r with c1 := v }
  | .c2 => { r with c2 := v }
  | .c3 => { r with c3 := v }
  | .c4 => { r with c4 := v }
  | .c5 => { r with c5 := v }
  | .c6 => { r with c6 := v }

/-- Clears the bits of the channels that `keep` does not hold of. -/
def PerChannel.filter (r : PerChannel) (keep : Channel → Bool) : PerChannel :=
  { c1 := r.c1 && keep .c1, c2 := r.c2 && keep .c2, c3 := r.c3 && keep .c3
    c4 := r.c4 && keep .c4, c5 := r.c5 && keep .c5, c6 := r.c6 && keep .c6 }

/-- Every channel's bit clear. -/
def PerChannel.none : PerChannel := ⟨false, false, false, false, false, false⟩

/-- Some channel's bit is set. -/
def PerChannel.any (r : PerChannel) : Bool := r.c1 || r.c2 || r.c3 || r.c4 || r.c5 || r.c6

/-- The mode of a pair. -/
def Modes.get (r : Modes) : Pair → BufMode
  | .p12 => r.p12
  | .p34 => r.p34
  | .p56 => r.p56

/-- The selection on a channel. -/
def Users.get (r : Users) : Channel → Option Selection
  | .c1 => r.c1
  | .c2 => r.c2
  | .c3 => r.c3
  | .c4 => r.c4
  | .c5 => r.c5
  | .c6 => r.c6

/-- Sets the selection on a channel. -/
def Users.set (r : Users) (c : Channel) (v : Option Selection) : Users :=
  match c with
  | .c1 => { r with c1 := v }
  | .c2 => { r with c2 := v }
  | .c3 => { r with c3 := v }
  | .c4 => { r with c4 := v }
  | .c5 => { r with c5 := v }
  | .c6 => { r with c6 := v }

/-- Drops the selections that codes with the channel digit `c` have made (R248). -/
def Users.clear (r : Users) (c : Channel) : Users :=
  let keep (x : Option Selection) : Option Selection := x.filter fun x => decide (x.digit ≠ c)
  { c1 := keep r.c1, c2 := keep r.c2, c3 := keep r.c3, c4 := keep r.c4, c5 := keep r.c5, c6 := keep r.c6 }

/-- The channel whose clear (R248) is for the equipment of channel `c`: that of the channel digit of its select code, or
`c` itself where no equipment is selected on it (log entry 28). -/
def Users.clearedBy (r : Users) (c : Channel) : Channel :=
  match r.get c with
  | some x => x.digit
  | none => c

/-- The equipment selected on a channel. -/
def Users.equipment (r : Users) (c : Channel) : Option Equipment := (r.get c).map Selection.equipment

/-- The setting of a key. -/
def Keys.get (r : Keys) : Key → Bool
  | .k1 => r.k1
  | .k2 => r.k2
  | .k3 => r.k3

/-- Sets or clears a key. -/
def Keys.set (r : Keys) (k : Key) (v : Bool) : Keys :=
  match k with
  | .k1 => { r with k1 := v }
  | .k2 => { r with k2 := v }
  | .k3 => { r with k3 := v }

/-! ### Storage -/

/-- The word at a location: what is listed for it, else what an unlisted location reads as. -/
def Memory.read : Memory → Nat → Word
  | [], _ => Memory.unlisted
  | (k, v) :: rest, n => if n = k then v else Memory.read rest n

/-- Lists a word at its place in the rising order. -/
def Memory.insert : Memory → Nat → Word → Memory
  | [], n, v => [(n, v)]
  | (k, w) :: rest, n, v =>
    if n < k then (n, v) :: (k, w) :: rest
    else if n = k then (n, v) :: rest
    else (k, w) :: Memory.insert rest n v

/-- Takes a location out of the list. -/
def Memory.erase : Memory → Nat → Memory
  | [], _ => []
  | (k, w) :: rest, n => if n = k then Memory.erase rest n else (k, w) :: Memory.erase rest n

/-- Stores a word, keeping the canonical form. -/
def Memory.write (m : Memory) (n : Nat) (v : Word) : Memory :=
  if v = Memory.unlisted then Memory.erase m n else Memory.insert m n v

/-- Where a 15-bit address leads (R61): an installed word, no word, or an unknown one. -/
inductive Place where
  | word (n : Nat)
  | missing
  | unknown
  deriving DecidableEq, Repr

/-- The place of an address on this installation (R61, D1). -/
def Installation.locate (i : Installation) (a : Addr) : Place :=
  if a.toNat < i.size.words then .word a.toNat
  else
    match i.oob with
    | .fault => .missing
    | .wrap => .word (a.toNat % i.size.words)
    | .anyValue => .unknown

/-- `MemRead(a, 1)` (R15, R61, R62). -/
def State.readWord (s : State) (a : Addr) : Except Fault Word :=
  match s.inst.locate a with
  | .word n => .ok (s.mem.read n)
  | .missing => .error (.storageAbsent a)
  | .unknown => .ok (Config.absentWord s.free a)

/-- `MemWrite(a, 1, v)` (R15, R61, R62). -/
def State.writeWord (s : State) (a : Addr) (v : Word) : Result :=
  match s.inst.locate a with
  | .word n => .next { s with mem := s.mem.write n v }
  | .missing => .fault (.storageAbsent a)
  | .unknown => .next s

/-- `MemWriteAddr(a, v)`: the address portion of a word is replaced, bits 23 to 15 are kept (R15, R63). -/
def State.writeAddr (s : State) (a : Addr) (v : Addr) : Result :=
  match s.readWord a with
  | .ok w => s.writeWord a (withAddressPart w v)
  | .error f => .fault f

/-- The result `r`, and then `k` from the state it gives. -/
def andThen (r : Result) (k : State → Result) : Result :=
  match r with
  | .next s => k s
  | .fault f => .fault f
  | .refused e => .refused e

/-- Reads a word and goes on with it. -/
def State.withRead (s : State) (a : Addr) (k : Word → Result) : Result :=
  match s.readWord a with
  | .ok w => k w
  | .error f => .fault f

/-! ### Registers and control state -/

def State.setA (s : State) (v : Word) : State := { s with a := v }
def State.setQ (s : State) (v : Word) : State := { s with q := v }
def State.setB (s : State) (i : Index) (v : Addr) : State := { s with b := s.b.set i v }
def State.setP (s : State) (v : Addr) : State := { s with p := v }
def State.setU (s : State) (v : Word) : State := { s with u := v }
def State.setInd (s : State) (v : Indicators) : State := { s with ind := v }
def State.setIntr (s : State) (v : InterruptControl) : State := { s with intr := v }
def State.setChan (s : State) (v : ChannelControl) : State := { s with chan := v }
def State.setCon (s : State) (v : Console) : State := { s with con := v }
def State.setPanel (s : State) (v : Panel) : State := { s with panel := v }
def State.setEnv (s : State) (v : Environment) : State := { s with env := v }
def State.setFree (s : State) (v : Nat) : State := { s with free := v }

/-- Bb ← v where a register is named; with no register the quantity has nowhere to go (R25, D10). -/
def State.setIndex (s : State) (i : Option Index) (v : Addr) : State :=
  match i with
  | some i => s.setB i v
  | none => s

/-- `ChanActive[c] ← v` (R34). -/
def State.setActive (s : State) (c : Channel) (v : Bool) : State :=
  s.setChan { s.chan with active := s.chan.active.set c v }

/-- The selections on the channels ← v (R248, R259). -/
def State.setUsers (s : State) (v : Users) : State := s.setChan { s.chan with user := v }

/-! ### Exits (R16) -/

/-- `exit`: P ← inc15(P). -/
def State.exit (s : State) : State := s.setP (inc15 s.p)

/-- `skip_exit`: P ← inc15(inc15(P)). -/
def State.skipExit (s : State) : State := s.setP (inc15 (inc15 s.p))

/-- `skip_exit` where the condition holds, else `exit`. -/
def State.skipIf (s : State) (c : Bool) : State := if c then s.skipExit else s.exit

/-- `jump_exit(t)` (R215). -/
def State.jumpExit (s : State) (t : Addr) : State := s.setP t

/-- `return_jump(t)` (R216). -/
def State.returnJump (s : State) (t : Addr) : Result :=
  andThen (s.writeAddr t (inc15 s.p)) fun s1 => .next (s1.setP (inc15 t))

/-- The jump of codes 22, 23, 75 and 76: `j[2]` makes it a return jump (R217). -/
def State.jumpKind (s : State) (j : Desig) (m : Addr) : Result :=
  if j.getLsbD 2 then s.returnJump m else .next (s.jumpExit m)

/-! ### Stopping, the interrupt, and the return from it -/

/-- `stop(reason)`: the computer stops (R270); what the operator sets in U counts from here on (D39). -/
def State.stop (s : State) : State :=
  s.setPanel { s.panel with run := .stopped, uSet := false }

/-- The interrupt request line, the OR of the selected and present conditions (R280). -/
def State.interruptRequest (s : State) : Bool :=
  (s.intr.selInactive.c1 && !s.chan.active.c1) || (s.intr.selInactive.c2 && !s.chan.active.c2) ||
  (s.intr.selInactive.c3 && !s.chan.active.c3) || (s.intr.selInactive.c4 && !s.chan.active.c4) ||
  (s.intr.selInactive.c5 && !s.chan.active.c5) || (s.intr.selInactive.c6 && !s.chan.active.c6) ||
  (s.intr.selArith && (s.ind.divide || s.ind.shift || s.ind.overflow)) ||
  s.intr.rtcRequest ||
  (s.con.readerSelected && s.con.selReaderEotInt && s.con.readerEot) ||
  s.env.interrupt.any

/-- The address of the interrupt (R66, R282). -/
def interruptAddress : Addr := 0o16

/-- `interrupt_entry`: a return jump to 00016 that stores the boundary's P itself (R282); the clock's request is
answered by it (R289). -/
def State.interruptEntry (s : State) : Result :=
  andThen (s.writeAddr interruptAddress s.p) fun s1 =>
    .next ((s1.setP (inc15 interruptAddress)).setIntr
      { s1.intr with lockout := true, rtcRequest := false, deferred := false })

/-- An instruction executed with P = `p0` has completed: the lockout ends when `p0` is 00016 (R283). -/
def State.endLockout (s : State) (p0 : Addr) : State :=
  if p0 = interruptAddress then s.setIntr { s.intr with lockout := false } else s

end Sys2Proof.Machine
end

