-- ==== Sys2Proof/Machine/Operands.lean ====
section
/-!
DEFINITION. The three modes of address modification (spec/30_encoding.md R93 to R97): `resolve`, the indirect step,
`modify`, the relative one, and the operand forms of the designator classes M, Y, K and R (R94).
-/

namespace Sys2Proof.Machine

/-- The indirect chain from the location `m` (R96), read for at most the given number of levels.  A chain reads no
more than 2^15 different locations, so one that has not ended after 2^15 levels never ends; nor does one that comes to
a word that names its own location. -/
def State.resolveChain (s : State) : Nat → Addr → Except Fault (Desig × Addr)
  | 0, _ => .error .endlessIndirect
  | levels + 1, m =>
    match s.readWord m with
    | .error f => .error f
    | .ok w =>
      if desigField w = 7 then
        if addrField w = m then .error .endlessIndirect else State.resolveChain s levels (addrField w)
      else .ok (desigField w, addrField w)

/-- The levels after which a chain has met some location twice. -/
def maxLevels : Nat := 32768

/-- `resolve(b, m)` (R96). -/
def State.resolve (s : State) (b : Desig) (m : Addr) : Except Fault (Desig × Addr) :=
  if b = 7 then s.resolveChain maxLevels m else .ok (b, m)

/-- `modify(b, m)` (R95). -/
def State.modify (s : State) (d : Desig) (m : Addr) : Addr :=
  match indexOf d with
  | some i => add15 m (s.b.get i)
  | none => m

/-- U after the indirect step: its lower 18 bits are those of the last word read (R27, D28). -/
def State.substitute (s : State) (b d : Desig) (m : Addr) : State :=
  if b = 7 then s.setU (makeWord (opField s.u) d m) else s

/-- Goes on with the designator and execution address after `resolve` (R94, R96). -/
def State.withResolved (s : State) (b : Desig) (m : Addr) (k : Desig → Addr → State → Result) : Result :=
  match s.resolve b m with
  | .ok (d, m1) => k d m1 (s.substitute b d m1)
  | .error f => .fault f

/-- Class R: goes on with the register the designator names (if any) and the unmodified address (R94). -/
def State.withIndex (s : State) (b : Desig) (m : Addr) (k : Option Index → Addr → State → Result) : Result :=
  s.withResolved b m fun d m1 s1 => k (indexOf d) m1 s1

/-- Classes M, Y and K: goes on with the modified address M, operand Y or count K (R94, R18). -/
def State.withModified (s : State) (b : Desig) (m : Addr) (k : Addr → State → Result) : Result :=
  s.withResolved b m fun d m1 s1 => k (s1.modify d m1) s1

/-- Class M with a storage operand: goes on with M and the word at M. -/
def State.withOperand (s : State) (b : Desig) (m : Addr) (k : Addr → Word → State → Result) : Result :=
  s.withModified b m fun a s1 => s1.withRead a fun w => k a w s1

end Sys2Proof.Machine
end

