-- ==== Sys2Proof/Machine/AddressTransmission.lean ====
section
/-!
DEFINITION. Address transmission: LIL SIL SAL ENA ENQ ATI QTI ENI (spec/41_address_transmission.md).
-/

namespace Sys2Proof.Machine

/-- LIL (R141): Bb ← the address portion of (m); b = 0 is a pass that makes no reference. -/
def execLil (b : Desig) (m : Addr) (s : State) : Result :=
  s.withIndex b m fun i a s1 =>
    match i with
    | none => .next s1.exit
    | some i => s1.withRead a fun w => .next (s1.setB i (addressPart w)).exit

/-- SIL (R142): the address portion of (m) ← (Bb), or all ones for b = 0. -/
def execSil (b : Desig) (m : Addr) (s : State) : Result :=
  s.withIndex b m fun i a s1 =>
    andThen (s1.writeAddr a (match i with | none => BitVec.allOnes 15 | some i => s1.b.get i)) fun s2 => .next s2.exit

/-- SAL (R143): the address portion of (M) ← A[14:0]. -/
def execSal (b : Desig) (m : Addr) (s : State) : Result :=
  s.withModified b m fun a s1 => andThen (s1.writeAddr a (addressPart s1.a)) fun s2 => .next s2.exit

/-- ENA (R144): A ← Y with its sign extended. -/
def execEna (b : Desig) (y : Addr) (s : State) : Result :=
  s.withModified b y fun v s1 => .next (s1.setA (sext15 v)).exit

/-- ENQ (R145): Q ← Y with its sign extended. -/
def execEnq (b : Desig) (y : Addr) (s : State) : Result :=
  s.withModified b y fun v s1 => .next (s1.setQ (sext15 v)).exit

/-- ATI (R146): Bb ← A[14:0]; b = 0 is a pass (D10). -/
def execAti (b : Desig) (m : Addr) (s : State) : Result :=
  s.withIndex b m fun i _ s1 => .next (s1.setIndex i (addressPart s1.a)).exit

/-- QTI (R147): Bb ← Q[14:0]; b = 0 is a pass (D10). -/
def execQti (b : Desig) (m : Addr) (s : State) : Result :=
  s.withIndex b m fun i _ s1 => .next (s1.setIndex i (addressPart s1.q)).exit

/-- ENI (R148): Bb ← y; b = 0 is a pass. -/
def execEni (b : Desig) (y : Addr) (s : State) : Result :=
  s.withIndex b y fun i v s1 => .next (s1.setIndex i v).exit

end Sys2Proof.Machine
end

