-- ==== Sys2Proof/Machine/Flags.lean ====
section
/-!
DEFINITION. The arithmetic fault indicators (spec/60_exceptions.md R272 to R276): when each is set, and the sums that
set `OverflowFault`.  No instruction but EXF select 00070 clears one.
-/

namespace Sys2Proof.Machine

/-- `ovf24(x, y, r)`: the operands have one sign and the sum the other (R12). -/
def ovf24 (x y r : Word) : Bool := signBit x == signBit y && signBit r != signBit x

/-- Sets `OverflowFault` where the condition holds; it is sticky (R272, R275). -/
def State.raiseOverflow (s : State) (c : Bool) : State :=
  s.setInd { s.ind with overflow := s.ind.overflow || c }

/-- Sets `ShiftFault` where the modified count exceeds 63 (R180, R273). -/
def State.raiseShift (s : State) (k : Addr) : State :=
  s.setInd { s.ind with shift := s.ind.shift || decide (63 < k.toNat) }

/-- Sets `DivideFault` (R274). -/
def State.raiseDivide (s : State) : State :=
  s.setInd { s.ind with divide := true }

/-- `DivideFault, ShiftFault, OverflowFault ← false` (R245, R276). -/
def State.clearFaults (s : State) : State :=
  s.setInd { s.ind with divide := false, shift := false, overflow := false }

/-- A ← add24(x, y), with `OverflowFault` where the capacity of A is exceeded (R150, R275, D7). -/
def State.sumToA (s : State) (x y : Word) : State :=
  (s.raiseOverflow (ovf24 x y (add24 x y))).setA (add24 x y)

end Sys2Proof.Machine
end

