-- ==== Sys2Proof/Machine/Arithmetic.lean ====
section
/-!
DEFINITION. Full-word arithmetic: ADD SUB MUI DVI TAL (spec/42_full_word_arithmetic.md), and address arithmetic: INA
INI INQ (spec/43_address_arithmetic.md).
-/

namespace Sys2Proof.Machine

/-- ADD (R150). -/
def execAdd (b : Desig) (m : Addr) (s : State) : Result :=
  s.withOperand b m fun _ w s1 => .next (s1.sumToA s1.a w).exit

/-- SUB (R151): the complement of the operand is added. -/
def execSub (b : Desig) (m : Addr) (s : State) : Result :=
  s.withOperand b m fun _ w s1 => .next (s1.sumToA s1.a (cpl24 w)).exit

/-- The 48-bit product: the magnitudes are multiplied and the whole product is complemented where the signs differ
(R152, D12). -/
def product48 (a c : Word) : Long :=
  let p : Long := BitVec.ofNat 48 ((mag a).toNat * (mag c).toNat)
  if signBit a != signBit c then ~~~p else p

/-- MUI (R152): QA ← A times (M). -/
def execMui (b : Desig) (m : Addr) (s : State) : Result :=
  s.withOperand b m fun _ w s1 =>
    .next ((s1.setQ (highHalf (product48 s1.a w))).setA (lowHalf (product48 s1.a w))).exit

/-- The divide fault: the divisor is zero, or the magnitude of the quotient does not fit 23 bits (R153, R274). -/
def divideFaults (d : Long) (v : Word) : Bool :=
  decide ((mag v).toNat = 0) || decide (2 ^ 23 ≤ (mag48 d).toNat / (mag v).toNat)

/-- The quotient, complemented where the signs of dividend and divisor differ (R153). -/
def quotient24 (d : Long) (v : Word) : Word :=
  let q : Word := BitVec.ofNat 24 ((mag48 d).toNat / (mag v).toNat)
  if d.getLsbD 47 != signBit v then cpl24 q else q

/-- The remainder, complemented where the dividend is negative (R153). -/
def remainder24 (d : Long) (v : Word) : Word :=
  let r : Word := BitVec.ofNat 24 ((mag48 d).toNat % (mag v).toNat)
  if d.getLsbD 47 then cpl24 r else r

/-- DVI (R153): A ← quotient and Q ← remainder of QA by (M).  After a divide fault A and Q hold free values (D11). -/
def execDvi (b : Desig) (m : Addr) (s : State) : Result :=
  s.withOperand b m fun _ v s1 =>
    let d := joinLong s1.q s1.a
    if divideFaults d v then
      .next ((((s1.raiseDivide.setA (Config.freeWord s1.free)).setQ (Config.freeWord (s1.free + 1))).setFree
        (s1.free + 2))).exit
    else .next ((s1.setA (quotient24 d v)).setQ (remainder24 d v)).exit

/-- TAL (R154): Bb ← the number of ones in A; b = 0 is a pass (D10). -/
def execTal (b : Desig) (m : Addr) (s : State) : Result :=
  s.withIndex b m fun i _ s1 => .next (s1.setIndex i (BitVec.ofNat 15 (popcount24 s1.a))).exit

/-- INA (R161): A ← A + Y with its sign extended. -/
def execIna (b : Desig) (y : Addr) (s : State) : Result :=
  s.withModified b y fun v s1 => .next (s1.sumToA s1.a (sext15 v)).exit

/-- INI (R162): Bb ← y + (Bb); b = 0 is a pass. -/
def execIni (b : Desig) (y : Addr) (s : State) : Result :=
  s.withIndex b y fun i v s1 =>
    match i with
    | none => .next s1.exit
    | some i => .next (s1.setB i (add15 v (s1.b.get i))).exit

/-- INQ (R163): Q ← Q + Y with its sign extended; `OverflowFault` by the parameter `inq_sets_overflow` (D7). -/
def execInq (b : Desig) (y : Addr) (s : State) : Result :=
  s.withModified b y fun v s1 =>
    let r := add24 s1.q (sext15 v)
    .next ((s1.raiseOverflow (ovf24 s1.q (sext15 v) r && s1.inst.inqSetsOverflow)).setQ r).exit

end Sys2Proof.Machine
end

