-- ==== Sys2Proof/Machine/Buffer.lean ====
section
/-!
DEFINITION. The buffer agent (spec/49_external_function.md R239 to R244) and the console's reader and punch as it
serves them (R253, R254).  A request that cannot be served as things stand (the channel is inactive, the reader is not
selected ...) changes nothing.
-/

namespace Sys2Proof.Machine

/-- The control word that holds the terminal address of a channel: `2*C` (R66, R240). -/
def terminalWord (c : Channel) : Addr := BitVec.ofNat 15 (2 * c.number)

/-- The control word that holds the current address of a channel: `2*C + 1` (R66, R240). -/
def currentWord (c : Channel) : Addr := BitVec.ofNat 15 (2 * c.number + 1)

/-- The end of a transfer step: the current address, one further, is recorded in the odd control word, and the channel
becomes inactive when it equals the terminal address (R241, R242, R243). -/
def State.advanceBuffer (s : State) (c : Channel) (next : Addr) : Result :=
  andThen (s.writeAddr (currentWord c) next) fun s1 =>
    s1.withRead (terminalWord c) fun t =>
      .next (if next = addressPart t then s1.setActive c false else s1)

/-- `input_step(C, w)` (R241). -/
def State.inputStep (s : State) (c : Channel) (w : Word) : Result :=
  s.withRead (currentWord c) fun cw =>
    andThen (s.writeWord (addressPart cw) w) fun s1 => s1.advanceBuffer c (inc15 (addressPart cw))

/-- `output_step(C)`: goes on with the word sent and the state after the step (R242). -/
def State.outputStep (s : State) (c : Channel) (k : Word → State → Result) : Result :=
  s.withRead (currentWord c) fun cw =>
    s.withRead (addressPart cw) fun w =>
      andThen (s.advanceBuffer c (inc15 (addressPart cw))) fun s1 => k w s1

/-- What input stores for a 12-bit datum: the twelve bits, zeros above (R244, D35). -/
def word12 (d : BitVec 12) : Word := d.zeroExtend 24

/-- The first and the second storage word of a 48-bit datum (R244, D35). -/
def wordsOf48 (o : Word48Order) (d : Long) : Word × Word :=
  match o with
  | .upperFirst => (highHalf d, lowHalf d)
  | .lowerFirst => (lowHalf d, highHalf d)

/-- The 48-bit datum of two storage words (R244, D35). -/
def join48 (o : Word48Order) (w1 w2 : Word) : Long :=
  match o with
  | .upperFirst => joinLong w1 w2
  | .lowerFirst => joinLong w2 w1

/-- One transmission from the equipment on an active input channel (R241, R244); a 48-bit buffer that ends between the
two words is refused. -/
def State.input (s : State) (c : Channel) (d : Long) : Result :=
  match s.chan.mode.get c.pair with
  | .bits24 => s.inputStep c (lowHalf d)
  | .bits12 => s.inputStep c (word12 (d.extractLsb' 0 12))
  | .bits48 =>
    andThen (s.inputStep c (wordsOf48 s.inst.word48 d).1) fun s1 =>
      if s1.chan.active.get c then s1.inputStep c (wordsOf48 s.inst.word48 d).2 else .refused .oddBuffer48

/-- The frames the punch makes of a word (R254). -/
def punchFrames (m : TapeMode) (w : Word) : List Frame :=
  match m with
  | .character => [w.extractLsb' 0 7]
  | .assembly =>
    [1#1 ++ w.extractLsb' 18 6, 0#1 ++ w.extractLsb' 12 6, 0#1 ++ w.extractLsb' 6 6, 0#1 ++ w.extractLsb' 0 6]

/-- The punch takes a word (R254). -/
def State.punch (s : State) (w : Word) : State :=
  s.setEnv { s.env with punched := s.env.punched ++ punchFrames s.con.punchMode w }

/-- Equipment other than the punch takes what it is sent. -/
def State.send (s : State) (x : Sent) : State :=
  s.setEnv { s.env with sent := s.env.sent ++ [x] }

/-- The punch is the equipment selected on channel 2 (R254). -/
def State.punches (s : State) (c : OutChannel) : Bool := decide (c = .c2) && s.con.punchSelected

/-- The word the punch sees of a 12-bit transmission: bits 23 to 12 are not sent, and the sources give them no value
there (R244; log entry 26). -/
def punchWord12 (n : Nat) (w : Word) : Word := (Config.freeWord n).extractLsb' 12 12 ++ w.extractLsb' 0 12

/-- One transmission to the equipment on an active output channel (R242, R244, R254). -/
def State.output (s : State) (c : OutChannel) : Result :=
  match s.chan.mode.get c.channel.pair with
  | .bits24 =>
    s.outputStep c.channel fun w s1 =>
      .next (if s.punches c then s1.punch w else s1.send (.word24 c w))
  | .bits12 =>
    s.outputStep c.channel fun w s1 =>
      .next (if s.punches c then (s1.setFree (s1.free + 1)).punch (punchWord12 s1.free w)
        else s1.send (.word12 c (signBit w) (w.extractLsb' 0 12)))
  | .bits48 =>
    s.outputStep c.channel fun w1 s1 =>
      if s1.chan.active.get c.channel then
        s1.outputStep c.channel fun w2 s2 =>
          .next (if s.punches c then (s2.punch w1).punch w2 else s2.send (.word48 c (join48 s.inst.word48 w1 w2)))
      else .refused .oddBuffer48

/-- The 24-bit word of four frames, the first in the upper six bits (R253(b)). -/
def assemble (c0 c1 c2 c3 : Frame) : Word :=
  c0.extractLsb' 0 6 ++ c1.extractLsb' 0 6 ++ c2.extractLsb' 0 6 ++ c3.extractLsb' 0 6

/-- The reader's word goes to channel 1; a 160-mode pair takes its low twelve bits (R244, R253; log entry 26). -/
def State.readerWord (s : State) (rest : List Frame) (w : Word) : Result :=
  (s.setEnv { s.env with tape := rest }).inputStep .c1
    (if s.chan.mode.p12 = .bits12 then word12 (w.extractLsb' 0 12) else w)

/-- The reader is moving: selected, its channel active, its motor on and no end of tape (R253). -/
def State.readerMoves (s : State) : Bool :=
  s.con.readerSelected && s.chan.active.c1 && s.con.readerMotor && !s.con.readerEot

/-- The reader comes to its next character or word (R253).  Where the frame that should begin a word has no level-7
hole, no word is sent and the end-of-tape indicator is set. -/
def State.readerStep (s : State) : Result :=
  match s.con.readerMode, s.env.tape with
  | .character, c :: rest => s.readerWord rest (c.zeroExtend 24)
  | .assembly, c0 :: c1 :: c2 :: c3 :: rest =>
    if c0.getLsbD 6 then s.readerWord rest (assemble c0 c1 c2 c3)
    else .next ((s.setEnv { s.env with tape := c1 :: c2 :: c3 :: rest }).setCon { s.con with readerEot := true })
  | .assembly, c0 :: rest =>
    if c0.getLsbD 6 then .next s
    else .next ((s.setEnv { s.env with tape := rest }).setCon { s.con with readerEot := true })
  | _, [] => .next s

/-- The punch can take a word: selected, its channel active (R254), its motor on and its SELECT switch up (R316).
`PunchOutOfTape` "does not stop the punch" (R252; log entry 38). -/
def State.punchReady (s : State) : Bool :=
  s.con.punchSelected && s.chan.active.c2 && s.con.punchMotor && s.con.punchEnabled

/-- Another equipment than `e` is using channel `c`: the reader while it moves, the punch while it is selected, or the
external equipment selected on it (R239, R253, R254, R259; log entry 35). -/
def State.contested (s : State) (c : Channel) (e : Equipment) : Bool :=
  (decide (c = .c1) && s.readerMoves && decide (e ≠ .reader)) ||
  (decide (c = .c2) && s.con.punchSelected && decide (e ≠ .punch)) ||
  (match s.chan.user.equipment c with
    | some (.external x) => decide (e ≠ .external x)
    | _ => false)

/-- The transfer `r` that the equipment `e` asks for on the active channel `c`; two equipments using one channel at once
are refused (R259). -/
def State.alone (s : State) (c : Channel) (e : Equipment) (r : Result) : Result :=
  if s.contested c e then .refused .secondEquipment else r

/-- The equipment whose replies come on channel `c` without a selection there: in 160 mode the external equipment selected
on the output channel of the pair replies on the input channel (R256; log entry 35). -/
def State.replier (s : State) (c : Channel) : Option External :=
  match c.isInput, s.chan.mode.get c.pair, s.chan.user.equipment c.partner with
  | true, .bits12, some (.external x) => some x
  | _, _, _ => none

/-- The external equipment `x` has been selected for transfers on channel `c` (R241, R242, R256). -/
def State.connected (s : State) (c : Channel) (x : External) : Bool :=
  decide (s.chan.user.equipment c = some (.external x)) || decide (s.replier c = some x)

/-- The external equipment `x` asks for a word on channel `c` on which it is not selected.  In 160 mode a word whose bit 23
is set is a select code: it is sent, and selects the equipment that takes it (R256; log entry 35).  Any other word is not
taken (R259). -/
def State.selectByWord (s : State) (c : OutChannel) (x : External) : Result :=
  match s.chan.mode.get c.channel.pair with
  | .bits12 =>
    s.withRead (currentWord c.channel) fun cw =>
      s.withRead (addressPart cw) fun w =>
        if signBit w then
          andThen (s.output c) fun s1 =>
            .next (s1.setUsers (s1.chan.user.set c.channel (some ⟨.external x, c.channel⟩)))
        else .next s
  | _ => .next s

/-- A request of the external equipment `x` on channel `c`: it does `r` where the equipment is selected there, and else
`r0`; on an inactive channel no word arrives or is taken (R241, R242, R259). -/
def State.byExternal (s : State) (c : Channel) (x : External) (r r0 : Result) : Result :=
  if s.chan.active.get c then s.alone c (.external x) (if s.connected c x then r else r0) else .next s

/-- A request of an equipment, served where it can be (R241, R242, R253, R254, R316); one that cannot be served changes nothing
(log entry 29). -/
def State.serve (s : State) (t : Transfer) : Result :=
  match t with
  | .offer c x d => s.byExternal c.channel x (s.input c.channel d) (.next s)
  | .request c x => s.byExternal c.channel x (s.output c) (s.selectByWord c x)
  | .reader => if s.readerMoves then s.alone .c1 .reader s.readerStep else .next s
  | .punch => if s.punchReady then s.alone .c2 .punch (s.output .c2) else .next s

/-- Requests served one after another (R257). -/
def State.serveAll (s : State) : List Transfer → Result
  | [] => .next s
  | t :: rest => andThen (s.serve t) fun s1 => State.serveAll s1 rest

/-- The gap between two words of a search: the requests due there are served (R72, R200). -/
def State.searchGap (s : State) : Result :=
  match s.env.searchRequests with
  | [] => .next s
  | ts :: rest => (s.setEnv { s.env with searchRequests := rest }).serveAll ts

end Sys2Proof.Machine
end

