-- ==== Sys2Proof/Machine/External.lean ====
section
/-!
DEFINITION. EXF (spec/49_external_function.md R235 to R259): the lists of select and sense codes, select, sense and
the six activates.
-/

namespace Sys2Proof.Machine

/-! ### Select codes -/

/-- What a select code asks for (R245, R247, R248, R249, R251, R255, R258). -/
inductive SelectCode where
  /-- 000C0 and 000C1. -/
  | channelInactive (c : Channel) (on : Bool)
  /-- 00070. -/
  | clearFaults
  /-- 00100 and 00101. -/
  | arithFault (on : Bool)
  /-- 01000 and 01001. -/
  | realTime (on : Bool)
  /-- 040XY: the set X of pairs and the mode Y. -/
  | bufferMode (pairs : BitVec 3) (mode : BufMode)
  /-- C0000. -/
  | channelClear (c : Channel)
  /-- 11200. -/
  | readerNoInterrupt
  /-- 1121X. -/
  | readerSetEot
  /-- 11220. -/
  | readerInterrupt
  /-- 21200. -/
  | punchAssembly
  /-- 21210. -/
  | punchCharacter
  /-- 21240. -/
  | punchMotorOff
  /-- A code with a channel digit that is no console code: the environment's. -/
  | external (c : Channel)
  /-- No list names it and no external equipment can have it. -/
  | unlisted
  deriving DecidableEq, Repr

/-- The mode digit of a buffer mode code (R247). -/
def modeOf (d : Nat) : Option BufMode :=
  match d with
  | 0 => some .bits24
  | 1 => some .bits12
  | 2 => some .bits48
  | _ => none

/-- Internal select codes from their digits below the channel digit 0 (R245, R247). -/
def internalSelect (d3 d2 d1 d0 : Nat) : SelectCode :=
  if d3 = 0 ∧ d2 = 0 then
    if d1 = 7 ∧ d0 = 0 then .clearFaults
    else
      match channelOf d1, d0 with
      | some c, 0 => .channelInactive c true
      | some c, 1 => .channelInactive c false
      | _, _ => .unlisted
  else if d3 = 0 ∧ d2 = 1 ∧ d1 = 0 then
    match d0 with
    | 0 => .arithFault true
    | 1 => .arithFault false
    | _ => .unlisted
  else if d3 = 1 ∧ d2 = 0 ∧ d1 = 0 then
    match d0 with
    | 0 => .realTime true
    | 1 => .realTime false
    | _ => .unlisted
  else if d3 = 4 ∧ d2 = 0 then
    match d1, modeOf d0 with
    | 0, _ => .unlisted
    | x, some mode => .bufferMode (BitVec.ofNat 3 x) mode
    | _, none => .unlisted
  else .unlisted

/-- Reader select codes 112xx (R249). -/
def readerSelect (d1 d0 : Nat) : SelectCode :=
  match d1, d0 with
  | 0, 0 => .readerNoInterrupt
  | 1, _ => .readerSetEot
  | 2, 0 => .readerInterrupt
  | _, _ => .unlisted

/-- Punch select codes 212xx (R251). -/
def punchSelect (d1 d0 : Nat) : SelectCode :=
  match d1, d0 with
  | 0, 0 => .punchAssembly
  | 1, 0 => .punchCharacter
  | 4, 0 => .punchMotorOff
  | _, _ => .unlisted

/-- What a select code asks for, from its five octal digits (R236, R258). -/
def selectCode (y : Addr) : SelectCode :=
  let d3 := octalDigit 3 y
  let d2 := octalDigit 2 y
  let d1 := octalDigit 1 y
  let d0 := octalDigit 0 y
  match channelOf (octalDigit 4 y) with
  | none => if octalDigit 4 y = 0 then internalSelect d3 d2 d1 d0 else .unlisted
  | some c =>
    if d3 = 0 ∧ d2 = 0 ∧ d1 = 0 ∧ d0 = 0 then .channelClear c
    else if c = .c1 ∧ d3 = 1 ∧ d2 = 2 then readerSelect d1 d0
    else if c = .c2 ∧ d3 = 1 ∧ d2 = 2 then punchSelect d1 d0
    else .external c

/-! ### The effects of the select codes -/

/-- The pair's mode, or its old one where X does not name it (R247). -/
def Modes.select (r : Modes) (pairs : BitVec 3) (mode : BufMode) : Modes :=
  { p12 := if pairs.getLsbD 0 then mode else r.p12
    p34 := if pairs.getLsbD 1 then mode else r.p34
    p56 := if pairs.getLsbD 2 then mode else r.p56 }

/-- A channel of a named pair is active (R247). -/
def State.pairsActive (s : State) (pairs : BitVec 3) : Bool :=
  (pairs.getLsbD 0 && (s.chan.active.c1 || s.chan.active.c2)) ||
  (pairs.getLsbD 1 && (s.chan.active.c3 || s.chan.active.c4)) ||
  (pairs.getLsbD 2 && (s.chan.active.c5 || s.chan.active.c6))

/-- A buffer mode select (R247), refused where R247 and R249 leave it without meaning. -/
def State.selectMode (s : State) (pairs : BitVec 3) (mode : BufMode) : Result :=
  if s.con.readerArmed && pairs.getLsbD 0 && decide (mode ≠ .bits24) then .refused .modeAfterReaderSelect
  else if s.pairsActive pairs then .refused .modeWhileActive
  else .next (s.setChan { s.chan with mode := s.chan.mode.select pairs mode }).exit

/-- A channel clear (R248): the selections made by codes with its channel digit are dropped, and with them the interrupt
signals of that equipment.  DESIGN CHOICE: the signal of an equipment is the bit of a channel on which it is selected, so
the clear drops the bits of all the channels whose selections it drops, and its own where nothing is selected there; it
leaves its own up where a code with another digit selected the equipment there (log entry 28). -/
def State.clearChannel (s : State) (c : Channel) : State :=
  let s1 := (s.setUsers (s.chan.user.clear c)).setEnv
    { s.env with
      interrupt := s.env.interrupt.filter fun e => decide (s.chan.user.clearedBy e ≠ c)
      delivered := s.env.delivered ++ [BitVec.ofNat 15 (4096 * c.number)] }
  match c with
  | .c1 => s1.setCon { s1.con with readerSelected := false, readerArmed := false }
  | .c2 => s1.setCon { s1.con with punchSelected := false }
  | _ => s1

/-- A reader select: the reader is selected and the pair 1-2 put in 24-bit mode (R249).  DESIGN CHOICE: R249's effect
is carried out also where channel 1 or 2 is active and the pair was in another mode, although R247 refuses a mode select
there (log entry 34). -/
def State.selectReader (s : State) (eot sel : Bool) : State :=
  (s.setCon
    { s.con with
      readerSelected := true
      readerArmed := true
      readerEot := s.con.readerEot || eot
      selReaderEotInt := sel }).setChan { s.chan with mode := { s.chan.mode with p12 := .bits24 } }

/-- A punch select (R251). -/
def State.selectPunch (s : State) (mode : TapeMode) : State :=
  s.setCon { s.con with punchSelected := true, punchMotor := true, punchMode := mode }

/-- The external equipment that a listed select code selects, and whether on both channels of the pair (R255; log entry
36): 1607 `320n1`, `320n2`, `420n1`, `420n2` for the units 1 to 4; 1609 `54001` to `54007` and `54011` to `54017`, those
that punch (last digit 4 to 7) on channel 6 too, since an odd channel only ever inputs (R239); 161 `C4210` on an output
and `C4220` on an input channel; 1612 `C6000` on an output channel.  The other listed codes speak to equipment that has
been selected before. -/
def listedSelect (y : Addr) : Option (External × Bool) :=
  let d4 := octalDigit 4 y
  let d3 := octalDigit 3 y
  let d2 := octalDigit 2 y
  let d1 := octalDigit 1 y
  let d0 := octalDigit 0 y
  let output := d4 = 2 || d4 = 4 || d4 = 6
  let input := d4 = 1 || d4 = 3 || d4 = 5
  if (d4 = 3 || d4 = 4) && d3 = 2 && d2 = 0 && 1 ≤ d1 && d1 ≤ 4 && (d0 = 1 || d0 = 2) then some (.tape1607, false)
  else if d4 = 5 && d3 = 4 && d2 = 0 && d1 ≤ 1 && 1 ≤ d0 then some (.cards1609, decide (4 ≤ d0))
  else if d3 = 4 && d2 = 2 && d0 = 0 && ((output && d1 = 1) || (input && d1 = 2)) then some (.typewriter161, false)
  else if output && d3 = 6 && d2 = 0 && d1 = 0 && d0 = 0 then some (.printer1612, false)
  else none

/-- The external equipment that a select code selects, and whether on both channels of the pair: by the lists, or by the
installation (R255). -/
def Installation.selectedBy (i : Installation) (y : Addr) : Option (External × Bool) :=
  match listedSelect y with
  | some x => some x
  | none => (i.otherSelects.find? fun o => decide (o.code = y)).map fun o => (.other o.equipment, o.both)

/-- The equipment a channel is for: the one selected on it, else the one whose replies come on it (R256, R259). -/
def State.userOf (s : State) (c : Channel) : Option Equipment :=
  match s.chan.user.equipment c with
  | some e => some e
  | none => (s.replier c).map .external

/-- The channel's buffer is active and for another equipment than `e` (R259). -/
def State.usedByOther (s : State) (c : Channel) (e : Equipment) : Bool :=
  s.chan.active.get c && (match s.userOf c with | none => false | some x => decide (x ≠ e))

/-- The selections after the equipment `e` is selected by a code with the channel digit `c`: on that channel, or on both
of its pair. -/
def Users.select (r : Users) (c : Channel) (both : Bool) (e : Equipment) : Users :=
  let r1 := r.set c (some ⟨e, c⟩)
  if both then r1.set c.partner (some ⟨e, c⟩) else r1

/-- The equipment `e` is selected, with the further effect `t`; a second equipment on an active channel is refused
(R259). -/
def State.selectEquipment (s : State) (c : Channel) (both : Bool) (e : Equipment) (t : State) : Result :=
  if s.usedByOther c e || (both && s.usedByOther c.partner e) then .refused .secondEquipment
  else .next (t.setUsers (s.chan.user.select c both e)).exit

/-- A select code for external equipment is delivered to it (R255, D20; log entry 23). -/
def State.deliver (s : State) (y : Addr) : State :=
  s.setEnv { s.env with delivered := s.env.delivered ++ [y] }

/-- EXF select, `74 0 y` (R236). -/
def execExfSelect (y : Addr) (s : State) : Result :=
  match selectCode y with
  | .channelInactive c on =>
    .next (s.setIntr { s.intr with selInactive := s.intr.selInactive.set c on }).exit
  | .clearFaults => .next s.clearFaults.exit
  | .arithFault on => .next (s.setIntr { s.intr with selArith := on }).exit
  | .realTime true => .next (s.setIntr { s.intr with selRtc := true }).exit
  | .realTime false => .next (s.setIntr { s.intr with selRtc := false, rtcRequest := false }).exit
  | .bufferMode pairs mode => s.selectMode pairs mode
  | .channelClear c => .next (s.clearChannel c).exit
  | .readerNoInterrupt => s.selectEquipment .c1 false .reader (s.selectReader false false)
  | .readerSetEot => s.selectEquipment .c1 false .reader (s.selectReader true false)
  | .readerInterrupt => s.selectEquipment .c1 false .reader (s.selectReader false true)
  | .punchAssembly => s.selectEquipment .c2 false .punch (s.selectPunch .assembly)
  | .punchCharacter => s.selectEquipment .c2 false .punch (s.selectPunch .character)
  | .punchMotorOff => .next (s.setCon { s.con with punchMotor := false }).exit
  | .external c =>
    match s.inst.selectedBy y with
    | some (x, both) => s.selectEquipment c both (.external x) (s.deliver y)
    | none => .next (s.deliver y).exit
  | .unlisted => .refused (.unlistedCode y)

/-! ### Sense codes -/

/-- The conditions a sense code can name (R246, R250, R252, R255). -/
inductive SenseCondition where
  | channelActive (c : Channel)
  | divide
  | shift
  | overflow
  | readerEot
  | readerAssembly
  | punchOutOfTape
  /-- The condition that the external code `y` names. -/
  | external (y : Addr)
  deriving DecidableEq, Repr

/-- The external sense codes listed in pairs, the second of which skips on the absence of the condition of the first:
1607 (3200x, 4200x), 1609 (54002 to 54005) and 1612 (y6000, y6001 for an even y) (R255). -/
def pairedExternal (y : Addr) : Bool :=
  let high := y.toNat / 8
  high = 0o3200 || high = 0o4200 || y.toNat / 2 = 0o54002 / 2 || y.toNat / 2 = 0o54004 / 2 ||
  y.toNat / 2 = 0o26000 / 2 || y.toNat / 2 = 0o46000 / 2 || y.toNat / 2 = 0o66000 / 2

/-- The condition a sense code names and whether it skips on its presence; none for a code of R258(b). -/
def senseCode (y : Addr) : Option (SenseCondition × Bool) :=
  let d3 := octalDigit 3 y
  let d2 := octalDigit 2 y
  let d1 := octalDigit 1 y
  let d0 := octalDigit 0 y
  match channelOf (octalDigit 4 y) with
  | none =>
    if octalDigit 4 y = 0 ∧ d3 = 0 ∧ d0 < 2 then
      match d2, d1, channelOf d1 with
      | 0, _, some c => some (.channelActive c, d0 = 0)
      | 1, 1, _ => some (.divide, d0 = 0)
      | 1, 2, _ => some (.shift, d0 = 0)
      | 1, 3, _ => some (.overflow, d0 = 0)
      | _, _, _ => none
    else none
  | some c =>
    if c = .c1 ∧ d3 = 1 ∧ d2 = 2 then
      match d1, d0 with
      | 0, 0 => some (.readerEot, true)
      | 0, 1 => some (.readerEot, false)
      | 1, 0 => some (.readerAssembly, true)
      | 1, 1 => some (.readerAssembly, false)
      | _, _ => none
    else if c = .c2 ∧ d3 = 1 ∧ d2 = 2 then
      match d1, d0 with
      | 0, 0 => some (.punchOutOfTape, true)
      | 0, 1 => some (.punchOutOfTape, false)
      | _, _ => none
    else if pairedExternal y ∧ d0 % 2 = 1 then some (.external (y - 1), false)
    else some (.external y, true)

/-- The truth of a condition (R246, R250, R252, R255). -/
def State.holds (s : State) : SenseCondition → Bool
  | .channelActive c => s.chan.active.get c
  | .divide => s.ind.divide
  | .shift => s.ind.shift
  | .overflow => s.ind.overflow
  | .readerEot => s.con.readerEot
  | .readerAssembly => decide (s.con.readerMode = .assembly)
  | .punchOutOfTape => s.con.punchOutOfTape
  | .external y => s.env.conditions.contains y

/-- EXF sense, `74 7 y` (R237): a skip exit where the condition exists; nothing else changes. -/
def execExfSense (y : Addr) (s : State) : Result :=
  match senseCode y with
  | some (c, present) => .next (s.skipIf (s.holds c == present))
  | none => .refused (.unlistedCode y)

/-! ### Activate -/

/-- `activate(j, y)` (R238): the starting address is recorded in the odd control word; the channel becomes active, or
inactive at once where the starting address is the terminal address. -/
def State.activate (s : State) (c : Channel) (y : Addr) : Result :=
  andThen (s.writeAddr (currentWord c) y) fun s1 =>
    s1.withRead (terminalWord c) fun t =>
      let s2 := if c = .c1 then s1.setCon { s1.con with readerArmed := false } else s1
      if y = addressPart t then .next (s2.setActive c false).exit
      else if s.chan.active.get c then .refused .activateActive
      else .next (s2.setActive c true).exit

/-- EXF activate channel 1 (R238). -/
def execExfActivate1 (y : Addr) (s : State) : Result := s.activate .c1 y

/-- EXF activate channel 2 (R238). -/
def execExfActivate2 (y : Addr) (s : State) : Result := s.activate .c2 y

/-- EXF activate channel 3 (R238). -/
def execExfActivate3 (y : Addr) (s : State) : Result := s.activate .c3 y

/-- EXF activate channel 4 (R238). -/
def execExfActivate4 (y : Addr) (s : State) : Result := s.activate .c4 y

/-- EXF activate channel 5 (R238). -/
def execExfActivate5 (y : Addr) (s : State) : Result := s.activate .c5 y

/-- EXF activate channel 6 (R238). -/
def execExfActivate6 (y : Addr) (s : State) : Result := s.activate .c6 y

end Sys2Proof.Machine
end

