-- ==== Sys2Proof/Machine/FullWord.lean ====
section
/-!
DEFINITION. Full-word transmission: LDA LAC LDQ LQC STA STQ XAQ (spec/40_full_word_transmission.md).
-/

namespace Sys2Proof.Machine

/-- LDA (R131): A ← (M). -/
def execLda (b : Desig) (m : Addr) (s : State) : Result :=
  s.withOperand b m fun _ w s1 => .next (s1.setA w).exit

/-- LAC (R132): A ← (M)'. -/
def execLac (b : Desig) (m : Addr) (s : State) : Result :=
  s.withOperand b m fun _ w s1 => .next (s1.setA (cpl24 w)).exit

/-- LDQ (R133): Q ← (M). -/
def execLdq (b : Desig) (m : Addr) (s : State) : Result :=
  s.withOperand b m fun _ w s1 => .next (s1.setQ w).exit

/-- LQC (R134): Q ← (M)'. -/
def execLqc (b : Desig) (m : Addr) (s : State) : Result :=
  s.withOperand b m fun _ w s1 => .next (s1.setQ (cpl24 w)).exit

/-- STA (R135): (M) ← A. -/
def execSta (b : Desig) (m : Addr) (s : State) : Result :=
  s.withModified b m fun a s1 => andThen (s1.writeWord a s1.a) fun s2 => .next s2.exit

/-- STQ (R136): (M) ← Q. -/
def execStq (b : Desig) (m : Addr) (s : State) : Result :=
  s.withModified b m fun a s1 => andThen (s1.writeWord a s1.q) fun s2 => .next s2.exit

/-- A and Q change places (R137). -/
def State.interchange (s : State) : State := (s.setA s.q).setQ s.a

/-- XAQ (R137); the address is not used. -/
def execXaq (_ : Addr) (s : State) : Result := .next s.interchange.exit

end Sys2Proof.Machine
end

