-- ==== Sys2Proof/Machine/Logical.lean ====
section
/-!
DEFINITION. Logical instructions: SST SCM SCL SSU LDL ADL SBL STL CMA CMQ (spec/44_logical.md).
-/

namespace Sys2Proof.Machine

/-- SST (R166): A ← A | (M). -/
def execSst (b : Desig) (m : Addr) (s : State) : Result :=
  s.withOperand b m fun _ w s1 => .next (s1.setA (s1.a ||| w)).exit

/-- SCM (R167): A ← A ^ (M). -/
def execScm (b : Desig) (m : Addr) (s : State) : Result :=
  s.withOperand b m fun _ w s1 => .next (s1.setA (s1.a ^^^ w)).exit

/-- SCL (R168): A ← A & ~(M). -/
def execScl (b : Desig) (m : Addr) (s : State) : Result :=
  s.withOperand b m fun _ w s1 => .next (s1.setA (s1.a &&& ~~~w)).exit

/-- SSU (R169): A ← (A & ~Q) | ((M) & Q). -/
def execSsu (b : Desig) (m : Addr) (s : State) : Result :=
  s.withOperand b m fun _ w s1 => .next (s1.setA ((s1.a &&& ~~~s1.q) ||| (w &&& s1.q))).exit

/-- LDL (R170): A ← Q & (M). -/
def execLdl (b : Desig) (m : Addr) (s : State) : Result :=
  s.withOperand b m fun _ w s1 => .next (s1.setA (s1.q &&& w)).exit

/-- ADL (R171): A ← A + (Q & (M)). -/
def execAdl (b : Desig) (m : Addr) (s : State) : Result :=
  s.withOperand b m fun _ w s1 => .next (s1.sumToA s1.a (s1.q &&& w)).exit

/-- SBL (R172): A ← A - (Q & (M)). -/
def execSbl (b : Desig) (m : Addr) (s : State) : Result :=
  s.withOperand b m fun _ w s1 => .next (s1.sumToA s1.a (cpl24 (s1.q &&& w))).exit

/-- STL (R173): (M) ← Q & A. -/
def execStl (b : Desig) (m : Addr) (s : State) : Result :=
  s.withModified b m fun a s1 => andThen (s1.writeWord a (s1.q &&& s1.a)) fun s2 => .next s2.exit

/-- A ← A' (R174). -/
def State.complementA (s : State) : State := s.setA (cpl24 s.a)

/-- Q ← Q' (R175). -/
def State.complementQ (s : State) : State := s.setQ (cpl24 s.q)

/-- CMA (R174); the address is not used. -/
def execCma (_ : Addr) (s : State) : Result := .next s.complementA.exit

/-- CMQ (R175); the address is not used. -/
def execCmq (_ : Addr) (s : State) : Result := .next s.complementQ.exit

end Sys2Proof.Machine
end

