-- ==== Sys2Proof/Machine/Jumps.lean ====
section
/-!
DEFINITION. Jumps and stops: AJP QJP SLJ SLS UJP IJP URJ (spec/48_jumps_and_stops.md), the illegal codes
(spec/60_exceptions.md R271) and code 52 with designator 7 (spec/30_encoding.md R102).
-/

namespace Sys2Proof.Machine

/-- The condition of AJP and QJP that `j[1:0]` selects (R217, R218). -/
def condition (j : Desig) (r : Word) : Bool :=
  match j.toNat % 4 with
  | 0 => isZero r
  | 1 => !isZero r
  | 2 => !signBit r
  | _ => signBit r

/-- AJP (R218). -/
def execAjp (j : Desig) (m : Addr) (s : State) : Result :=
  if condition j s.a then s.jumpKind j m else .next s.exit

/-- QJP (R219). -/
def execQjp (j : Desig) (m : Addr) (s : State) : Result :=
  if condition j s.q then s.jumpKind j m else .next s.exit

/-- The key `j[1:0]` names; 0 references none and the condition holds (R220, R221). -/
def keyCondition (j : Desig) (keys : Keys) : Bool :=
  match j.toNat % 4 with
  | 0 => true
  | 1 => keys.k1
  | 2 => keys.k2
  | _ => keys.k3

/-- SLJ (R220). -/
def execSlj (j : Desig) (m : Addr) (s : State) : Result :=
  if keyCondition j s.panel.jumpKey then s.jumpKind j m else .next s.exit

/-- SLS (R221): where the stop condition holds the computer stops with the jump pending; else it jumps. -/
def execSls (j : Desig) (m : Addr) (s : State) : Result :=
  if keyCondition j s.panel.stopKey then .next (s.setPanel { s.panel with slsPending := true }).stop
  else s.jumpKind j m

/-- The jump of an SLS, made when the operator restarts: U still holds the SLS word (R44, R221). -/
def State.pendingJump (s : State) : Result :=
  (s.setPanel { s.panel with slsPending := false }).jumpKind (desigField s.u) (addrField s.u)

/-- UJP (R222). -/
def execUjp (b : Desig) (m : Addr) (s : State) : Result :=
  s.withModified b m fun a s1 => .next (s1.jumpExit a)

/-- IJP (R223): while (Bb) is not zero it is reduced by one and the jump to the unmodified m is made. -/
def execIjp (b : Desig) (m : Addr) (s : State) : Result :=
  s.withIndex b m fun i a s1 =>
    match i with
    | none => .next s1.exit
    | some i =>
      .next (if s1.b.get i = 0 then s1.exit else (s1.setB i (dec15 (s1.b.get i))).jumpExit a)

/-- URJ (R224). -/
def execUrj (b : Desig) (m : Addr) (s : State) : Result :=
  s.withModified b m fun a s1 => s1.returnJump a

/-- `stop(IllegalCode)` and nothing else: P stays at the illegal word (R271, D19). -/
def State.illegal (s : State) : Result := .next s.stop

/-- Code 00 (R271); designator and address are not looked at (R98). -/
def execFault00 (_ : Desig) (_ : Addr) (s : State) : Result := s.illegal

/-- Code 77 (R271). -/
def execFault77 (_ : Desig) (_ : Addr) (s : State) : Result := s.illegal

/-- Code 52.3 (R271). -/
def execFault52d3 (_ : Addr) (s : State) : Result := s.illegal

/-- Code 52.4 (R271). -/
def execFault52d4 (_ : Addr) (s : State) : Result := s.illegal

/-- Code 52.5 (R271). -/
def execFault52d5 (_ : Addr) (s : State) : Result := s.illegal

/-- Code 52.6 (R271). -/
def execFault52d6 (_ : Addr) (s : State) : Result := s.illegal

/-- Code 52 with designator 7: the designator at the end of the chain selects XAQ, CMA, CMQ or an illegal code
(R98, R102, D9). -/
def execIndirect52 (m : Addr) (s : State) : Result :=
  s.withResolved 7 m fun d _ s1 =>
    match d.toNat with
    | 0 => .next s1.interchange.exit
    | 1 => .next s1.complementA.exit
    | 2 => .next s1.complementQ.exit
    | _ => s1.illegal

end Sys2Proof.Machine
end

