-- ==== Sys2Proof/Machine/Replace.lean ====
section
/-!
DEFINITION. Replace instructions: RAD RSB RAO RSO (spec/46_replace.md).  One read and one write of M with nothing
between them; the wrapped sum goes to A and to M also on overflow (R195, D7).
-/

namespace Sys2Proof.Machine

/-- The sum of `x` and `t` is stored in A and at M, and the instruction exits (R195). -/
def State.replaceSum (s : State) (a : Addr) (x t : Word) : Result :=
  andThen ((s.sumToA x t).writeWord a (add24 x t)) fun s1 => .next s1.exit

/-- RAD (R196): (M) + A. -/
def execRad (b : Desig) (m : Addr) (s : State) : Result :=
  s.withOperand b m fun a x s1 => s1.replaceSum a x s1.a

/-- RSB (R197): (M) - A. -/
def execRsb (b : Desig) (m : Addr) (s : State) : Result :=
  s.withOperand b m fun a x s1 => s1.replaceSum a x (cpl24 s1.a)

/-- RAO (R198): (M) + 1. -/
def execRao (b : Desig) (m : Addr) (s : State) : Result :=
  s.withOperand b m fun a x s1 => s1.replaceSum a x 0o00000001

/-- RSO (R199): (M) - 1. -/
def execRso (b : Desig) (m : Addr) (s : State) : Result :=
  s.withOperand b m fun a x s1 => s1.replaceSum a x 0o77777776

end Sys2Proof.Machine
end

