-- ==== Sys2Proof/Machine/Search.lean ====
section
/-!
DEFINITION. Storage search: EQS THS MEQ MTH PTS; storage test: SSK SSH; skip: ISK SKH SKL
(spec/47_search_test_skip.md).
-/

namespace Sys2Proof.Machine

/-! ### The tests of R201 to R205 -/

/-- EQS (R201): equal, the two zeros being the same quantity. -/
def testEqual (a w : Word) : Bool := w == a || (isZero w && isZero a)

/-- THS (R202): greater, positive zero being greater than minus zero. -/
def testGreater (a w : Word) : Bool := decide (key a < key w)

/-- PTS (R205): the inclusive or of A and the word equals A. -/
def testPattern (a w : Word) : Bool := (a ||| w) == a

/-! ### The search loop -/

/-- The loop of R200 with `c` words left to search: the count is reduced in Bb, the word at m + count is tested, and
between two words buffer requests may be served (R72). -/
def State.searchLoop (test : Word → Bool) (i : Index) (m : Addr) : Nat → State → Result
  | 0, s => .next s.exit
  | c + 1, s =>
    let s1 := s.setB i (BitVec.ofNat 15 c)
    s1.withRead (add15 m (BitVec.ofNat 15 c)) fun w =>
      if test w then .next s1.skipExit
      else if c = 0 then .next s1.exit
      else andThen s1.searchGap fun s2 => State.searchLoop test i m c s2

/-- A search (R200): with no register only the word at m is searched; else (Bb) words, the last one first. -/
def State.search (s : State) (test : Word → Bool) (i : Option Index) (m : Addr) : Result :=
  match i with
  | none => s.withRead m fun w => .next (s.skipIf (test w))
  | some i => State.searchLoop test i m (s.b.get i).toNat s

/-- EQS (R201). -/
def execEqs (b : Desig) (m : Addr) (s : State) : Result :=
  s.withIndex b m fun i a s1 => s1.search (testEqual s1.a) i a

/-- THS (R202). -/
def execThs (b : Desig) (m : Addr) (s : State) : Result :=
  s.withIndex b m fun i a s1 => s1.search (testGreater s1.a) i a

/-- MEQ (R203): the logical product of Q and the word is tested. -/
def execMeq (b : Desig) (m : Addr) (s : State) : Result :=
  s.withIndex b m fun i a s1 => s1.search (fun w => testEqual s1.a (s1.q &&& w)) i a

/-- MTH (R204). -/
def execMth (b : Desig) (m : Addr) (s : State) : Result :=
  s.withIndex b m fun i a s1 => s1.search (fun w => testGreater s1.a (s1.q &&& w)) i a

/-- PTS (R205). -/
def execPts (b : Desig) (m : Addr) (s : State) : Result :=
  s.withIndex b m fun i a s1 => s1.search (testPattern s1.a) i a

/-! ### Storage test -/

/-- SSK (R207): skip where (M) is negative. -/
def execSsk (b : Desig) (m : Addr) (s : State) : Result :=
  s.withOperand b m fun _ w s1 => .next (s1.skipIf (signBit w))

/-- SSH (R208): (M) is shifted left circularly one place; skip where it was negative. -/
def execSsh (b : Desig) (m : Addr) (s : State) : Result :=
  s.withOperand b m fun a w s1 =>
    andThen (s1.writeWord a (rotl24 w 1)) fun s2 => .next (s2.skipIf (signBit w))

/-! ### Skip -/

/-- Goes on with the register the designator names; designator 0 is refused (R209, D14). -/
def needIndex (i : Option Index) (k : Index → Result) : Result :=
  match i with
  | none => .refused .noIndexRegister
  | some i => k i

/-- ISK (R210). -/
def execIsk (b : Desig) (y : Addr) (s : State) : Result :=
  s.withIndex b y fun i v s1 => needIndex i fun i =>
    .next (if s1.b.get i = v then (s1.setB i 0).skipExit else (s1.setB i (inc15 (s1.b.get i))).exit)

/-- SKH (R211): exit where (Bb) ≥ y, both unsigned; else skip. -/
def execSkh (b : Desig) (y : Addr) (s : State) : Result :=
  s.withIndex b y fun i v s1 => needIndex i fun i =>
    .next (s1.skipIf (decide ((s1.b.get i).toNat < v.toNat)))

/-- SKL (R212): skip where (Bb) ≥ y, both unsigned; else exit. -/
def execSkl (b : Desig) (y : Addr) (s : State) : Result :=
  s.withIndex b y fun i v s1 => needIndex i fun i =>
    .next (s1.skipIf (decide (v.toNat ≤ (s1.b.get i).toNat)))

end Sys2Proof.Machine
end

