-- ==== Sys2Proof/Machine/Shift.lean ====
section
/-!
DEFINITION. Shifting and scaling: ARS QRS LRS LLS QLS ALS SCA SCQ (spec/45_shifting.md).  The count K is an unsigned
15-bit number and exactly K places are shifted (R180, D32).
-/

namespace Sys2Proof.Machine

/-- The double-length register AQ (R23). -/
def State.aq (s : State) : Long := joinLong s.a s.q

/-- AQ ← t. -/
def State.setAQ (s : State) (t : Long) : State := (s.setA (highHalf t)).setQ (lowHalf t)

/-- ARS (R181). -/
def execArs (b : Desig) (k : Addr) (s : State) : Result :=
  s.withModified b k fun n s1 => .next ((s1.raiseShift n).setA (asr24 s1.a n.toNat)).exit

/-- QRS (R182). -/
def execQrs (b : Desig) (k : Addr) (s : State) : Result :=
  s.withModified b k fun n s1 => .next ((s1.raiseShift n).setQ (asr24 s1.q n.toNat)).exit

/-- LRS (R183). -/
def execLrs (b : Desig) (k : Addr) (s : State) : Result :=
  s.withModified b k fun n s1 => .next ((s1.raiseShift n).setAQ (asr48 s1.aq n.toNat)).exit

/-- LLS (R184). -/
def execLls (b : Desig) (k : Addr) (s : State) : Result :=
  s.withModified b k fun n s1 => .next ((s1.raiseShift n).setAQ (rotl48 s1.aq n.toNat)).exit

/-- QLS (R185). -/
def execQls (b : Desig) (k : Addr) (s : State) : Result :=
  s.withModified b k fun n s1 => .next ((s1.raiseShift n).setQ (rotl24 s1.q n.toNat)).exit

/-- ALS (R186). -/
def execAls (b : Desig) (k : Addr) (s : State) : Result :=
  s.withModified b k fun n s1 => .next ((s1.raiseShift n).setA (rotl24 s1.a n.toNat)).exit

/-- The loop of SCA (R188): shifts left circularly while the count is not 0 and the bit below the sign equals it. -/
def scale24 : Nat → Word → Word × Nat
  | 0, a => (a, 0)
  | c + 1, a => if a.getLsbD 23 = a.getLsbD 22 then scale24 c (rotl24 a 1) else (a, c + 1)

/-- The loop of SCQ (R189). -/
def scale48 : Nat → Long → Long × Nat
  | 0, t => (t, 0)
  | c + 1, t => if t.getLsbD 47 = t.getLsbD 46 then scale48 c (rotl48 t 1) else (t, c + 1)

/-- SCA's result and scale factor; nothing is shifted where A is either zero (R187 note 4, R188). -/
def scaleA (a : Word) (k : Addr) : Word × Nat :=
  if isZero a then (a, k.toNat) else scale24 k.toNat a

/-- SCQ's result and scale factor; nothing is shifted where AQ is all zeros or all ones (R189, D31). -/
def scaleAQ (t : Long) (k : Addr) : Long × Nat :=
  if t = 0 ∨ t = BitVec.allOnes 48 then (t, k.toNat) else scale48 k.toNat t

/-- SCA (R188): the count is the unmodified k, and the residual count goes to Bb; with b = 0 it is lost (R187). -/
def execSca (b : Desig) (k : Addr) (s : State) : Result :=
  s.withIndex b k fun i n s1 =>
    .next ((s1.setA (scaleA s1.a n).1).setIndex i (BitVec.ofNat 15 (scaleA s1.a n).2)).exit

/-- SCQ (R189). -/
def execScq (b : Desig) (k : Addr) (s : State) : Result :=
  s.withIndex b k fun i n s1 =>
    .next ((s1.setAQ (scaleAQ s1.aq n).1).setIndex i (BitVec.ofNat 15 (scaleAQ s1.aq n).2)).exit

end Sys2Proof.Machine
end

