-- ==== Sys2Proof/Machine/Execute.lean ====
section
/-!
DEFINITION. XEC (spec/48_jumps_and_stops.md R225, R226): the word at M is placed in U and executed as though it stood
at the address of the XEC, P being unchanged.  The word may be any instruction, an XEC among them, so this file maps
every instruction to its meaning once more; `Dispatch.exec` is the same map for an instruction that P reached.
-/

namespace Sys2Proof.Machine

/-- Executes the instruction `i` with P unchanged (R226), an XEC by executing the word it names, for at most the given
number of words.  A chain of XEC words reads no more than 2^15 different locations, so one that has not ended after
that many never ends (R226(e)); nor does one that comes to the very XEC that named it. -/
def executeTarget : Nat → Instr → State → Result
  | 0, _, _ => .fault .endlessExecute
  | words + 1, i, s =>
    match i with
    | .xec b m => s.withOperand b m fun _ w s1 =>
        if w = encode (.xec b m) then .fault .endlessExecute else executeTarget words (decode w) (s1.setU w)
    | .fault00 b m => execFault00 b m s
    | .ars b k => execArs b k s
    | .qrs b k => execQrs b k s
    | .lrs b k => execLrs b k s
    | .enq b y => execEnq b y s
    | .als b k => execAls b k s
    | .qls b k => execQls b k s
    | .lls b k => execLls b k s
    | .ena b y => execEna b y s
    | .ina b y => execIna b y s
    | .lda b m => execLda b m s
    | .lac b m => execLac b m s
    | .add b m => execAdd b m s
    | .sub b m => execSub b m s
    | .ldq b m => execLdq b m s
    | .lqc b m => execLqc b m s
    | .sta b m => execSta b m s
    | .stq b m => execStq b m s
    | .ajp j m => execAjp j m s
    | .qjp j m => execQjp j m s
    | .mui b m => execMui b m s
    | .dvi b m => execDvi b m s
    | .ati b m => execAti b m s
    | .qti b m => execQti b m s
    | .skh b y => execSkh b y s
    | .skl b y => execSkl b y s
    | .ujp b m => execUjp b m s
    | .urj b m => execUrj b m s
    | .sca b k => execSca b k s
    | .scq b k => execScq b k s
    | .ssk b m => execSsk b m s
    | .ssh b m => execSsh b m s
    | .sst b m => execSst b m s
    | .scl b m => execScl b m s
    | .scm b m => execScm b m s
    | .ssu b m => execSsu b m s
    | .ldl b m => execLdl b m s
    | .adl b m => execAdl b m s
    | .sbl b m => execSbl b m s
    | .stl b m => execStl b m s
    | .eni b y => execEni b y s
    | .ini b y => execIni b y s
    | .xaq m => execXaq m s
    | .cma m => execCma m s
    | .cmq m => execCmq m s
    | .fault52d3 m => execFault52d3 m s
    | .fault52d4 m => execFault52d4 m s
    | .fault52d5 m => execFault52d5 m s
    | .fault52d6 m => execFault52d6 m s
    | .indirect52 m => execIndirect52 m s
    | .lil b m => execLil b m s
    | .isk b y => execIsk b y s
    | .ijp b m => execIjp b m s
    | .inq b y => execInq b y s
    | .sil b m => execSil b m s
    | .sal b m => execSal b m s
    | .tal b m => execTal b m s
    | .pts b m => execPts b m s
    | .eqs b m => execEqs b m s
    | .ths b m => execThs b m s
    | .meq b m => execMeq b m s
    | .mth b m => execMth b m s
    | .rad b m => execRad b m s
    | .rsb b m => execRsb b m s
    | .rao b m => execRao b m s
    | .rso b m => execRso b m s
    | .exfSelect y => execExfSelect y s
    | .exfActivate1 y => execExfActivate1 y s
    | .exfActivate2 y => execExfActivate2 y s
    | .exfActivate3 y => execExfActivate3 y s
    | .exfActivate4 y => execExfActivate4 y s
    | .exfActivate5 y => execExfActivate5 y s
    | .exfActivate6 y => execExfActivate6 y s
    | .exfSense y => execExfSense y s
    | .slj j m => execSlj j m s
    | .sls j m => execSls j m s
    | .fault77 b m => execFault77 b m s

/-- The words after which a chain of XEC words has read some location twice: all 2^15 of them, and the instruction
at its end. -/
def maxWords : Nat := 32769

/-- XEC (R225, R226). -/
def execXec (b : Desig) (m : Addr) (s : State) : Result := executeTarget maxWords (.xec b m) s

end Sys2Proof.Machine
end

