-- ==== Sys2Proof/Machine/Dispatch.lean ====
section
/-!
DEFINITION. One arm for each instruction: its meaning, called with the operands of the word (spec/30_encoding.md R98).
-/

namespace Sys2Proof.Machine

def exec (i : Instr) (s : State) : Host.Outcome State Fault Refusal :=
  match i with
  | .fault00 b m => Sys2Proof.Machine.execFault00 b m s
  | .ars b k => Sys2Proof.Machine.execArs b k s
  | .qrs b k => Sys2Proof.Machine.execQrs b k s
  | .lrs b k => Sys2Proof.Machine.execLrs b k s
  | .enq b y => Sys2Proof.Machine.execEnq b y s
  | .als b k => Sys2Proof.Machine.execAls b k s
  | .qls b k => Sys2Proof.Machine.execQls b k s
  | .lls b k => Sys2Proof.Machine.execLls b k s
  | .ena b y => Sys2Proof.Machine.execEna b y s
  | .ina b y => Sys2Proof.Machine.execIna b y s
  | .lda b m => Sys2Proof.Machine.execLda b m s
  | .lac b m => Sys2Proof.Machine.execLac b m s
  | .add b m => Sys2Proof.Machine.execAdd b m s
  | .sub b m => Sys2Proof.Machine.execSub b m s
  | .ldq b m => Sys2Proof.Machine.execLdq b m s
  | .lqc b m => Sys2Proof.Machine.execLqc b m s
  | .sta b m => Sys2Proof.Machine.execSta b m s
  | .stq b m => Sys2Proof.Machine.execStq b m s
  | .ajp j m => Sys2Proof.Machine.execAjp j m s
  | .qjp j m => Sys2Proof.Machine.execQjp j m s
  | .mui b m => Sys2Proof.Machine.execMui b m s
  | .dvi b m => Sys2Proof.Machine.execDvi b m s
  | .ati b m => Sys2Proof.Machine.execAti b m s
  | .qti b m => Sys2Proof.Machine.execQti b m s
  | .skh b y => Sys2Proof.Machine.execSkh b y s
  | .skl b y => Sys2Proof.Machine.execSkl b y s
  | .ujp b m => Sys2Proof.Machine.execUjp b m s
  | .urj b m => Sys2Proof.Machine.execUrj b m s
  | .sca b k => Sys2Proof.Machine.execSca b k s
  | .scq b k => Sys2Proof.Machine.execScq b k s
  | .ssk b m => Sys2Proof.Machine.execSsk b m s
  | .ssh b m => Sys2Proof.Machine.execSsh b m s
  | .sst b m => Sys2Proof.Machine.execSst b m s
  | .scl b m => Sys2Proof.Machine.execScl b m s
  | .scm b m => Sys2Proof.Machine.execScm b m s
  | .ssu b m => Sys2Proof.Machine.execSsu b m s
  | .ldl b m => Sys2Proof.Machine.execLdl b m s
  | .adl b m => Sys2Proof.Machine.execAdl b m s
  | .sbl b m => Sys2Proof.Machine.execSbl b m s
  | .stl b m => Sys2Proof.Machine.execStl b m s
  | .eni b y => Sys2Proof.Machine.execEni b y s
  | .ini b y => Sys2Proof.Machine.execIni b y s
  | .xaq m => Sys2Proof.Machine.execXaq m s
  | .cma m => Sys2Proof.Machine.execCma m s
  | .cmq m => Sys2Proof.Machine.execCmq m s
  | .fault52d3 m => Sys2Proof.Machine.execFault52d3 m s
  | .fault52d4 m => Sys2Proof.Machine.execFault52d4 m s
  | .fault52d5 m => Sys2Proof.Machine.execFault52d5 m s
  | .fault52d6 m => Sys2Proof.Machine.execFault52d6 m s
  | .indirect52 m => Sys2Proof.Machine.execIndirect52 m s
  | .lil b m => Sys2Proof.Machine.execLil b m s
  | .isk b y => Sys2Proof.Machine.execIsk b y s
  | .ijp b m => Sys2Proof.Machine.execIjp b m s
  | .inq b y => Sys2Proof.Machine.execInq b y s
  | .sil b m => Sys2Proof.Machine.execSil b m s
  | .xec b m => Sys2Proof.Machine.execXec b m s
  | .sal b m => Sys2Proof.Machine.execSal b m s
  | .tal b m => Sys2Proof.Machine.execTal b m s
  | .pts b m => Sys2Proof.Machine.execPts b m s
  | .eqs b m => Sys2Proof.Machine.execEqs b m s
  | .ths b m => Sys2Proof.Machine.execThs b m s
  | .meq b m => Sys2Proof.Machine.execMeq b m s
  | .mth b m => Sys2Proof.Machine.execMth b m s
  | .rad b m => Sys2Proof.Machine.execRad b m s
  | .rsb b m => Sys2Proof.Machine.execRsb b m s
  | .rao b m => Sys2Proof.Machine.execRao b m s
  | .rso b m => Sys2Proof.Machine.execRso b m s
  | .exfSelect y => Sys2Proof.Machine.execExfSelect y s
  | .exfActivate1 y => Sys2Proof.Machine.execExfActivate1 y s
  | .exfActivate2 y => Sys2Proof.Machine.execExfActivate2 y s
  | .exfActivate3 y => Sys2Proof.Machine.execExfActivate3 y s
  | .exfActivate4 y => Sys2Proof.Machine.execExfActivate4 y s
  | .exfActivate5 y => Sys2Proof.Machine.execExfActivate5 y s
  | .exfActivate6 y => Sys2Proof.Machine.execExfActivate6 y s
  | .exfSense y => Sys2Proof.Machine.execExfSense y s
  | .slj j m => Sys2Proof.Machine.execSlj j m s
  | .sls j m => Sys2Proof.Machine.execSls j m s
  | .fault77 b m => Sys2Proof.Machine.execFault77 b m s

end Sys2Proof.Machine
end

