-- ==== Sys2Proof/Machine/Operator.lean ====
section
/-!
DEFINITION. What happens between instructions by other hands than the program's: the two master clears
(spec/70_reset_and_hazards.md R310, R311), the operator's console (spec/10_state.md R36, R43; spec/60_exceptions.md
R270, R291), the clock's pulse (R289), and the equipment (R290).
-/

namespace Sys2Proof.Machine

/-- `internal_master_clear` (R310, R39).  With it go the model's own bits about a run in progress. -/
def State.internalMasterClear (s : State) : State :=
  { s with
    a := 0
    q := 0
    b := ⟨0, 0, 0, 0, 0, 0⟩
    p := 0
    u := 0
    ind := { divide := false, shift := false, overflow := false, oddStorage := false, evenStorage := false }
    intr :=
      { lockout := false, selInactive := PerChannel.none, selArith := false, selRtc := false, rtcRequest := false,
        deferred := false }
    con := { s.con with readerEot := true }
    panel := { s.panel with run := .stopped, slsPending := false, stepOne := false, uSet := false } }

/-- `external_master_clear` (R311, R40).  PunchMode and PunchMotor are left without a value (D37). -/
def State.externalMasterClear (s : State) : State :=
  { s with
    chan :=
      { active := PerChannel.none
        mode := { s.chan.mode with p12 := .bits24 }
        user := ⟨some ⟨.reader, .c1⟩, none, none, none, none, none⟩ }
    con :=
      { s.con with
        readerSelected := true
        selReaderEotInt := false
        readerArmed := false
        punchSelected := false
        punchMode := if Config.freeBit s.free then .assembly else .character
        punchMotor := Config.freeBit (s.free + 1) }
    env := { s.env with interrupt := PerChannel.none }
    free := s.free + 2 }

/-- A pulse of the real-time clock (R289): with `SelRTC` clear it does nothing; unless pulses are latched it counts
only where the interrupt could be taken at that moment. -/
def State.clockPulse (s : State) : State :=
  let takes := s.inst.rtcPulseLatched || (decide (s.panel.run = .running) && !s.intr.lockout)
  s.setIntr { s.intr with rtcRequest := s.intr.rtcRequest || (s.intr.selRtc && takes) }

/-- START (R270): the computer runs, and goes on with the fetch at P. -/
def State.start (s : State) : State :=
  s.setPanel { s.panel with run := .running, stepOne := false, uSet := false }

/-- STEP (R291): while running the computer stops at this boundary; while stopped it executes one instruction.  DESIGN
CHOICE: of two presses at one boundary the second finds what the first has made, so STEP after START or STEP stops the
computer again with nothing executed, and leaves the jump of an SLS pending (log entry 37). -/
def State.stepKey (s : State) : State :=
  match s.panel.run with
  | .running => s.setPanel { s.panel with run := .stopped, stepOne := false, uSet := false }
  | .stopped => s.setPanel { s.panel with run := .running, stepOne := true }

/-- A register changed by the operator: possible only while the computer is stopped (R43). -/
def State.manual (s : State) (s' : State) : Result :=
  match s.panel.run with
  | .running => .refused .changeWhileRunning
  | .stopped => .next s'

/-- P or U changed by the operator: refused also inside an SLS (R221). -/
def State.manualControl (s : State) (s' : State) : Result :=
  match s.panel.run with
  | .running => .refused .changeWhileRunning
  | .stopped => if s.panel.slsPending then .refused .changeInsideSls else .next s'

/-- The reader's mode switch (R253): the end-of-tape indicator is cleared, and the tape goes to its load point (the
first frame with a level-7 hole) or one frame ahead. -/
def State.readerSwitch (s : State) (m : TapeMode) : State :=
  let tape :=
    match m with
    | .assembly => s.env.tape.dropWhile (fun c => !c.getLsbD 6)
    | .character => s.env.tape.drop 1
  (s.setCon { s.con with readerMode := m, readerEot := false }).setEnv { s.env with tape := tape }

/-- A condition of external equipment arises or goes away (R255). -/
def State.setCondition (s : State) (y : Addr) (present : Bool) : State :=
  let rest := s.env.conditions.filter (fun c => c != y)
  s.setEnv { s.env with conditions := if present then y :: rest else rest }

/-- One event at an instruction boundary. -/
def State.apply (s : State) (e : Event) : Result :=
  match e with
  | .transfer t => s.serve t
  | .clockPulse => .next s.clockPulse
  | .interruptLine c on => .next (s.setEnv { s.env with interrupt := s.env.interrupt.set c on })
  | .condition y present => .next (s.setCondition y present)
  | .clearInternal => .next s.internalMasterClear
  | .clearExternal => .next s.externalMasterClear
  | .start => .next s.start
  | .step => .next s.stepKey
  | .setA w => s.manual (s.setA w)
  | .setQ w => s.manual (s.setQ w)
  | .setB i v => s.manual (s.setB i v)
  | .setP v => s.manualControl (s.setP v)
  | .setU w => s.manualControl ((s.setU w).setPanel { s.panel with uSet := true })
  | .jumpKey k on => .next (s.setPanel { s.panel with jumpKey := s.panel.jumpKey.set k on })
  | .stopKey k on => .next (s.setPanel { s.panel with stopKey := s.panel.stopKey.set k on })
  | .readerMode m => .next (s.readerSwitch m)
  | .readerMotor on => .next (s.setCon { s.con with readerMotor := on })
  | .loadTape frames => .next (s.setEnv { s.env with tape := frames })
  | .punchMotor on => .next (s.setCon { s.con with punchMotor := on })
  | .punchSwitch on => .next (s.setCon { s.con with punchEnabled := on })
  | .punchOutOfTape on => .next (s.setCon { s.con with punchOutOfTape := on })

/-- The events of a boundary, one after another. -/
def State.applyAll (s : State) : List Event → Result
  | [] => .next s
  | e :: rest => andThen (s.apply e) fun s1 => State.applyAll s1 rest

end Sys2Proof.Machine
end

