-- ==== Sys2Proof/Machine/Cycle.lean ====
section
/-!
DEFINITION. One cycle of the machine: the boundary (the events due there, then the interrupt), and one instruction
(spec/20_memory.md R71, R72; spec/60_exceptions.md R281, R291; spec/92_eei_decisions.md D16, D39).
-/

namespace Sys2Proof.Machine

/-- The boundary the schedule gives next; past its end nothing happens (log entry 13). -/
def State.nextBoundary (s : State) : Boundary :=
  match s.env.schedule with
  | [] => { events := [], late := false, after := [] }
  | x :: _ => x

/-- The schedule without the boundary that is being taken. -/
def State.popBoundary (s : State) : State := s.setEnv { s.env with schedule := s.env.schedule.drop 1 }

/-- The interrupt could be taken at this boundary (R281); the computer is running here. -/
def State.interruptDue (s : State) : Bool := s.interruptRequest && !s.intr.lockout

/-- Recognition (R281): an interrupt that is due is taken, unless the scanner is late and its condition did not hold at
the last boundary already. -/
def State.recognize (s : State) (late : Bool) : Result :=
  if s.interruptDue && (!late || s.intr.deferred) then s.interruptEntry else .next s

/-- The end of a boundary (R281): what the buffer requests served last have made due is taken here where the condition
held at the last boundary already; whether it holds now, and is not taken, is recorded for the next boundary. -/
def State.settle (s : State) : Result :=
  andThen (s.recognize true) fun s1 => .next (s1.setIntr { s1.intr with deferred := s1.interruptDue })

/-- What follows an instruction that was executed with P = `p0`.  If it completed, the lockout ends where `p0` is
00016 (R283); an instruction that stopped the computer has not completed.  A step stops the computer (R291). -/
def State.finish (s : State) (p0 : Addr) : State :=
  let s1 := if s.panel.run = .running then s.endLockout p0 else s
  let s2 := if s1.panel.stepOne then s1.stop.setPanel { s1.stop.panel with stepOne := false } else s1
  s2.setFree (s2.free + 1)

/-- The instruction `w`, in U, is executed (R98). -/
def State.perform (s : State) (w : Word) : Result :=
  andThen (exec (decode w) ((s.setU w).setPanel { s.panel with uSet := false })) fun s1 => .next (s1.finish s.p)

/-- The next instruction: the word at P, or in a step the word the operator has set in U (R291, D39). -/
def State.runInstruction (s : State) : Result :=
  if s.panel.stepOne && s.panel.uSet then s.perform s.u
  else s.withRead s.p fun w => s.perform w

/-- The control section's part of a cycle: nothing while stopped (R270); the pending jump of an SLS, with no boundary
before it (R287); else one instruction.  DESIGN CHOICE: the count of free values advances in `finish`, so under the
`oob_policy` `any value` the word of an absent address is one throughout a cycle, and stays the same over the cycles of
a stopped computer, which execute nothing (log entries 4 and 6). -/
def State.proceed (s : State) : Result :=
  match s.panel.run with
  | .stopped => .next s
  | .running =>
    if s.panel.slsPending then andThen s.pendingJump fun s1 => .next (s1.finish s.p) else s.runInstruction

/-- The computer is between two instructions of the program: it runs and is inside no SLS (R270, R287). -/
def State.between (s : State) : Bool := decide (s.panel.run = .running) && !s.panel.slsPending

/-- The interrupt line is looked at between two instructions (R281). -/
def State.scanInterrupt (s : State) (late : Bool) : Result := if s.between then s.recognize late else .next s

/-- The boundary ends, between two instructions (R281). -/
def State.closeBoundary (s : State) : Result := if s.between then s.settle else .next s

/-- The boundary: the events due, the interrupt, the buffer requests served after it, and what they have made due (R257,
R281, R286). -/
def State.passBoundary (s : State) (x : Boundary) : Result :=
  andThen (s.applyAll x.events) fun s1 =>
    andThen (s1.scanInterrupt x.late) fun s2 => andThen (s2.serveAll x.after) fun s3 => s3.closeBoundary

/-- One cycle. -/
def State.cycle (s : State) : Result :=
  andThen (s.popBoundary.passBoundary s.nextBoundary) fun s1 => s1.proceed

/-- The word put where the next cycle fetches: the installed place of P. -/
def State.placeWord (s : State) (w : Word) : State :=
  match s.inst.locate s.p with
  | .word n => { s with mem := s.mem.write n w }
  | _ => s

/-- A boundary at which nothing happens and the scanner does not see the interrupt yet. -/
def quietBoundary : Boundary := { events := [], late := true, after := [] }

/-- The word placed at P, and the machine made to fetch it at the very next cycle: running, in no step and inside no
SLS, at a quiet boundary (log entry 12). -/
def State.readyToFetch (s : State) (w : Word) : State :=
  let s1 := s.placeWord w
  ((s1.setPanel { s1.panel with run := .running, slsPending := false, stepOne := false, uSet := false }).setIntr
    { s1.intr with deferred := false }).setEnv { s1.env with schedule := quietBoundary :: s1.env.schedule }

end Sys2Proof.Machine
end

