-- ==== Sys2Proof/Machine/Step.lean ====
section
/-!
DEFINITION. The step of the machine, and the state whose next step runs a given instruction word.
-/

namespace Sys2Proof.Machine

/-- One step: one boundary and one instruction (`State.cycle`). -/
def step (s : State) : Host.Outcome State Fault Refusal := s.cycle

/-- The state with the word `w` stored where the next step fetches (log entry 12).  Every instruction is one word of
24 bits, so `nbits` is 24 and there are no bits above it. -/
def State.withFetchWord (s : State) (_nbits w : Nat) : State := s.readyToFetch (BitVec.ofNat 24 w)

end Sys2Proof.Machine
end

