-- ==== Sys2Proof/Safety.lean ====
section
/-!
DEFINITION. The terms the statements are written in: what a statement says of storage and of U, the outcome of a
search, and the invariant that every step keeps.
-/

namespace Sys2Proof.Machine

/-! ### Storage -/

/-- The word of storage location `n`. -/
def State.word (s : State) (n : Nat) : Word := s.mem.read n

/-- The address `a` leads to the installed location `n` (R61).  Every address below `MEM_WORDS` leads to the location
of its own number; the others lead to one only where `oob_policy` is `wrap`. -/
def State.Leads (s : State) (a : Addr) (n : Nat) : Prop := s.inst.locate a = .word n

/-- A read of the address `a` answers `w` (R15, R61). -/
def State.Reads (s : State) (a : Addr) (w : Word) : Prop := s.readWord a = .ok w

/-- Storage of `t` is that of `s` with `v` at location `n`: every other location reads as before. -/
def State.StoredAt (s t : State) (n : Nat) (v : Word) : Prop :=
  t.word n = v ∧ ∀ k, k ≠ n → t.word k = s.word k

/-- Nothing but storage differs. -/
def State.SameButStorage (s t : State) : Prop := t = { s with mem := t.mem }

/-! ### Operands -/

/-- After `resolve` the instruction goes on with designator `d` and execution address `m1` (R96). -/
def State.Resolves (s : State) (b : Desig) (m : Addr) (d : Desig) (m1 : Addr) : Prop :=
  s.resolve b m = .ok (d, m1)

/-- U while an instruction is executed: with designator 7 its lower 18 bits are those of the last word of the indirect
chain, and its operation code is kept (R27, R96); else it is not changed. -/
def State.uAfter (s : State) (b d : Desig) (m1 : Addr) : Word :=
  if b = 7 then makeWord (opField s.u) d m1 else s.u

/-- The word after `s.p`, where `exit` goes (R16). -/
def State.next (s : State) : Addr := inc15 s.p

/-- Where `skip_exit` goes (R16). -/
def State.nextButOne (s : State) : Addr := inc15 (inc15 s.p)

/-- The indicators where `OverflowFault` is set too if the condition holds. -/
def Indicators.withOverflow (i : Indicators) (c : Bool) : Indicators := { i with overflow := i.overflow || c }

/-- The indicators where `ShiftFault` is set too if the count exceeds 63 (R180). -/
def Indicators.withShift (i : Indicators) (k : Addr) : Indicators := { i with shift := i.shift || decide (63 < k.toNat) }

/-! ### Searches -/

/-- Of the `n` words from `m` on, searched from the last one down, the first that meets the test is at offset `c`
(R200). -/
def State.SearchHits (s : State) (test : Word → Bool) (m : Addr) (n c : Nat) : Prop :=
  c < n ∧ (∃ w, s.Reads (add15 m (BitVec.ofNat 15 c)) w ∧ test w = true) ∧
    ∀ k, c < k → k < n → ∃ w, s.Reads (add15 m (BitVec.ofNat 15 k)) w ∧ test w = false

/-- None of the `n` words from `m` on meets the test (R200). -/
def State.SearchMisses (s : State) (test : Word → Bool) (m : Addr) (n : Nat) : Prop :=
  ∀ k, k < n → ∃ w, s.Reads (add15 m (BitVec.ofNat 15 k)) w ∧ test w = false

/-! ### The control section between instructions -/

/-- The control section is about to execute the instruction at P: it runs, it is inside no SLS, and no word set by the
operator is to be executed in its place (R270, R291). -/
def State.Fetches (s : State) : Prop :=
  s.panel.run = .running ∧ s.panel.slsPending = false ∧ (s.panel.stepOne && s.panel.uSet) = false

/-- No event and no buffer request is due at the coming boundary, and no interrupt either. -/
def State.Quiet (s : State) : Prop :=
  s.nextBoundary.events = [] ∧ s.nextBoundary.after = [] ∧ s.interruptDue = false

/-- The state in which the instruction word `w`, fetched at a quiet boundary, is executed: the boundary is past, U
holds the word, and the operator's setting of U is gone (R98). -/
def State.fetched (s : State) (w : Word) : State :=
  { s with
    u := w
    intr := { s.intr with deferred := false }
    panel := { s.panel with uSet := false }
    env := { s.env with schedule := s.env.schedule.drop 1 } }

/-- The interrupt's control state after an instruction that was executed with P = `p0` (R283). -/
def InterruptControl.afterCompleted (c : InterruptControl) (p0 : Addr) : InterruptControl :=
  { c with lockout := c.lockout && !decide (p0 = 0o16) }

/-! ### External functions -/

/-- `74 j y` for the channel j (R238). -/
def Channel.activateInstr (c : Channel) (y : Addr) : Instr :=
  match c with
  | .c1 => .exfActivate1 y
  | .c2 => .exfActivate2 y
  | .c3 => .exfActivate3 y
  | .c4 => .exfActivate4 y
  | .c5 => .exfActivate5 y
  | .c6 => .exfActivate6 y

/-- The digit Y of a buffer mode code (R247). -/
def BufMode.digit : BufMode → Nat
  | .bits24 => 0
  | .bits12 => 1
  | .bits48 => 2

/-- The External Function code with the given digits: channel digit, and the four digits below it. -/
def efCode (channel rest : Nat) : Addr := BitVec.ofNat 15 (4096 * channel + rest)

/-- The select codes of channel digit 0 that R245 and R247 list. -/
def internalSelectCodes : List Nat :=
  [0o010, 0o011, 0o020, 0o021, 0o030, 0o031, 0o040, 0o041, 0o050, 0o051, 0o060, 0o061, 0o070, 0o100, 0o101, 0o1000,
    0o1001, 0o4010, 0o4011, 0o4012, 0o4020, 0o4021, 0o4022, 0o4030, 0o4031, 0o4032, 0o4040, 0o4041, 0o4042, 0o4050,
    0o4051, 0o4052, 0o4060, 0o4061, 0o4062, 0o4070, 0o4071, 0o4072]

/-- The sense codes of channel digit 0 that R246 lists. -/
def internalSenseCodes : List Nat :=
  [0o010, 0o011, 0o020, 0o021, 0o030, 0o031, 0o040, 0o041, 0o050, 0o051, 0o060, 0o061, 0o110, 0o111, 0o120, 0o121,
    0o130, 0o131]

/-- The select codes of the console's reader and punch, 112xx and 212xx, that R249 and R251 list. -/
def consoleSelectCodes : List Nat :=
  [0o11200, 0o11210, 0o11211, 0o11212, 0o11213, 0o11214, 0o11215, 0o11216, 0o11217, 0o11220, 0o21200, 0o21210, 0o21240]

/-- The sense codes of the console's reader and punch that R250 and R252 list. -/
def consoleSenseCodes : List Nat := [0o11200, 0o11201, 0o11210, 0o11211, 0o21200, 0o21201]

/-- The external sense codes that R255 lists in pairs, with all their digits: 1607, 1609 and 1612. -/
def pairedSenseCodes : List Nat :=
  [0o32000, 0o32001, 0o32002, 0o32003, 0o32004, 0o32005, 0o32006, 0o32007, 0o42000, 0o42001, 0o42002, 0o42003, 0o42004,
    0o42005, 0o42006, 0o42007, 0o54002, 0o54003, 0o54004, 0o54005, 0o26000, 0o26001, 0o46000, 0o46001, 0o66000, 0o66001]

/-- The listed select codes that select an external equipment (R255; log entry 36), each with its equipment, and whether
it is selected on both channels of the pair. -/
def listedSelectCodes : List (Nat × External × Bool) :=
  ([0o32011, 0o32012, 0o32021, 0o32022, 0o32031, 0o32032, 0o32041, 0o32042, 0o42011, 0o42012, 0o42021, 0o42022, 0o42031,
    0o42032, 0o42041, 0o42042].map fun y => (y, .tape1607, false)) ++
  ([0o54001, 0o54002, 0o54003, 0o54011, 0o54012, 0o54013].map fun y => (y, .cards1609, false)) ++
  ([0o54004, 0o54005, 0o54006, 0o54007, 0o54014, 0o54015, 0o54016, 0o54017].map fun y => (y, .cards1609, true)) ++
  ([0o24210, 0o44210, 0o64210, 0o14220, 0o34220, 0o54220].map fun y => (y, .typewriter161, false)) ++
  ([0o26000, 0o46000, 0o66000].map fun y => (y, .printer1612, false))

/-- The select code selects the external equipment `x`, on both channels of the pair or on one: by the lists, or by the
installation (R255). -/
def State.Selects (s : State) (y : Addr) (x : External) (both : Bool) : Prop :=
  listedSelect y = some (x, both) ∨
    (listedSelect y = none ∧ ∃ o, s.inst.otherSelects.find? (fun o => decide (o.code = y)) = some o ∧
      x = .other o.equipment ∧ both = o.both)

/-- The equipment `e` is selected on the channel (R241, R259; log entry 36). -/
def State.SelectedOn (s : State) (c : Channel) (e : Equipment) : Prop := ∃ d, s.chan.user.get c = some ⟨e, d⟩

/-- The replies of the external equipment `x` come on the input channel `c`: the pair is in 160 mode, and `x` is selected
on its output channel (R256; log entry 35). -/
def State.RepliesOn (s : State) (c : Channel) (x : External) : Prop :=
  c.isInput = true ∧ s.chan.mode.get c.pair = .bits12 ∧ s.SelectedOn c.partner (.external x)

/-- The buffer of the channel is active and for an equipment other than `e`: one that is selected on it, or, where none
is, one whose replies come on it (R256, R259). -/
def State.KeptFrom (s : State) (c : Channel) (e : Equipment) : Prop :=
  s.chan.active.get c = true ∧
    ∃ x, (s.SelectedOn c x ∨ (s.chan.user.get c = none ∧ ∃ y, x = .external y ∧ s.RepliesOn c y)) ∧ x ≠ e

/-- The reader is moving (R253). -/
def State.ReaderMoves (s : State) : Prop :=
  s.con.readerSelected = true ∧ s.chan.active.c1 = true ∧ s.con.readerMotor = true ∧ s.con.readerEot = false

/-- The punch can take a word (R254, R316). -/
def State.PunchReady (s : State) : Prop :=
  s.con.punchSelected = true ∧ s.chan.active.c2 = true ∧ s.con.punchMotor = true ∧ s.con.punchEnabled = true

/-- An equipment other than `e` is using the channel `c` (R239, R259; log entry 35). -/
def State.UsedBeside (s : State) (c : Channel) (e : Equipment) : Prop :=
  (c = .c1 ∧ s.ReaderMoves ∧ e ≠ .reader) ∨ (c = .c2 ∧ s.con.punchSelected = true ∧ e ≠ .punch) ∨
    ∃ x, s.SelectedOn c (.external x) ∧ e ≠ .external x

/-- The state after the control words of one output step on channel `c` are done with (R242): the odd one counts on, and
the channel becomes inactive where the new current address is the terminal address. -/
def State.counted (s : State) (c : Channel) : State :=
  let odd := 2 * c.number + 1
  let next := addressPart (s.word odd) + 1
  { s with
    mem := s.mem.write odd (withAddressPart (s.word odd) next)
    chan := if next = addressPart (s.word (2 * c.number))
      then { s.chan with active := s.chan.active.set c false } else s.chan }

/-- The code is one of the console's, 112xx or 212xx (R249 to R252). -/
def consoleCode (y : Addr) : Prop := y.toNat / 64 = 0o112 ∨ y.toNat / 64 = 0o212

/-! ### One-place shifts -/

/-- One place to the right, the sign bit replicated and the lowest bit discarded (R14). -/
def rightOne24 (x : Word) : Word := x.extractLsb' 23 1 ++ x.extractLsb' 1 23

/-- One place to the left, the highest bit going to the lowest stage (R14). -/
def leftOne24 (x : Word) : Word := x.extractLsb' 0 23 ++ x.extractLsb' 23 1

/-- One place to the right on 48 bits (R14). -/
def rightOne48 (x : Long) : Long := x.extractLsb' 47 1 ++ x.extractLsb' 1 47

/-- One place to the left on 48 bits (R14). -/
def leftOne48 (x : Long) : Long := x.extractLsb' 0 47 ++ x.extractLsb' 47 1

/-! ### The invariant -/

/-- What holds in every state that steps reach from reset, whatever the operator and the equipment do. -/
structure State.Inv (s : State) : Prop where
  /-- Storage is in its canonical form. -/
  storage : s.mem.wf = true
  /-- The storage fault lights are never set (R31, R277). -/
  noOddFault : s.ind.oddStorage = false
  noEvenFault : s.ind.evenStorage = false
  /-- A clock request exists only while the clock is selected (R45, R289). -/
  clock : s.intr.rtcRequest = true → s.intr.selRtc = true
  /-- The jump of an SLS is pending only in a stopped computer (R44), and no word has been set in U there (R221). -/
  pending : s.panel.slsPending = true → s.panel.run = .stopped ∧ s.panel.uSet = false
  /-- A single step is over when the step of the machine ends (R291). -/
  stepped : s.panel.stepOne = false
  /-- A word set in U waits only in a stopped computer (R43). -/
  operatorU : s.panel.uSet = true → s.panel.run = .stopped
  /-- The reader or the punch is held as its channel's only by its own codes and while it is selected (R248, R249,
  R251). -/
  readerUser : ∀ d, s.chan.user.c1 = some ⟨.reader, d⟩ → d = .c1 ∧ s.con.readerSelected = true
  punchUser : ∀ d, s.chan.user.c2 = some ⟨.punch, d⟩ → d = .c2 ∧ s.con.punchSelected = true
  /-- From the reader select to the activate the pair of channels 1 and 2 is in 24-bit mode (R249). -/
  reader : s.con.readerArmed = true → s.con.readerSelected = true ∧ s.chan.mode.p12 = .bits24

end Sys2Proof.Machine
end

