-- ==== Sys2Proof/Certificates/Slice0/Obligations.lean ====
section
/-!
DEFINITION. The statements for the provers.  A statement of what an instruction does gives its whole next state: where
the state is written `{ s with ... }` every field that is not named is unchanged, and `StoredAt` says the same of every
location of storage.  Hypotheses speak of the state and the operands alone; `Resolves`, `Reads` and `Leads` say what
the operand's address is and that it leads to storage.  What a statement says of U (`State.uAfter`) is the manual's "the
instruction last held", as R27 and R96 describe it; that it is kept afterwards is the spec's decision D28 (log entry 16).
-/

open Sys2Proof Sys2Proof.Machine

/-! ### Encoding -/

/-- Words written out from the encodings of R91 and R100, one or more for each family, decode to the instruction they
stand for. -/
def Obligations.SpecWordsDecode : Prop :=
  decode 0o12000310 = .lda 0 0o310 ∧ decode 0o20000002 = .sta 0 0o2 ∧ decode 0o52000000 = .xaq 0 ∧
  decode 0o53100005 = .lil 1 0o5 ∧ decode 0o61100400 = .sal 1 0o400 ∧ decode 0o14100210 = .add 1 0o210 ∧
  decode 0o25000200 = .dvi 0 0o200 ∧ decode 0o56000003 = .inq 0 0o3 ∧ decode 0o47000400 = .stl 0 0o400 ∧
  decode 0o34100030 = .sca 1 0o30 ∧ decode 0o07000006 = .lls 0 0o6 ∧ decode 0o73000400 = .rso 0 0o400 ∧
  decode 0o64100400 = .eqs 1 0o400 ∧ decode 0o37000400 = .ssh 0 0o400 ∧ decode 0o54100003 = .isk 1 0o3 ∧
  decode 0o22302000 = .ajp 3 0o2000 ∧ decode 0o76402000 = .sls 4 0o2000 ∧ decode 0o60000500 = .xec 0 0o500 ∧
  decode 0o74000070 = .exfSelect 0o70 ∧ decode 0o74100400 = .exfActivate1 0o400 ∧
  decode 0o74700011 = .exfSense 0o11 ∧ decode 0o52712345 = .indirect52 0o12345 ∧
  decode 0o52400000 = .fault52d4 0 ∧ decode 0 = .fault00 0 0 ∧ decode 0o77777777 = .fault77 7 0o77777

/-- Decoding the word of a well-formed instruction gives the instruction back, for every instruction and every value of
its operands; and every 24-bit word is the word of the one instruction it decodes to. -/
def Obligations.DecodeAndEncodeAgree : Prop :=
  (∀ i : Instr, i.wellFormed = true → decode (encode i) = i ∧ decodeTableWord 24 (encode i).toNat = some i) ∧
  ∀ w : Word, encode (decode w) = w

/-- The three fields of a word, as numbers, and the word of three fields as a number (R91). -/
def Obligations.WordIsThreeFields : Prop :=
  (∀ w : Word, (opField w).toNat = w.toNat / 2 ^ 18 ∧ (desigField w).toNat = w.toNat / 2 ^ 15 % 2 ^ 3 ∧
    (addrField w).toNat = w.toNat % 2 ^ 15) ∧
  ∀ (f : BitVec 6) (b : Desig) (m : Addr), (makeWord f b m).toNat = f.toNat * 2 ^ 18 + b.toNat * 2 ^ 15 + m.toNat

/-! ### Arithmetic -/

/-- One's complement addition of a subtractive accumulator: commutative; x and its complement give positive zero;
negative zero arises from two negative zeros only. The laws are the spec's own inference (R156, "each a consequence of
the rules above"). -/
def Obligations.AdditionNormalisesZero : Prop :=
  (∀ x y : Word, add24 x y = add24 y x) ∧ (∀ x : Word, add24 x (cpl24 x) = 0 ∧ sub24 x x = 0) ∧
  (∀ x y : Word, add24 x y = BitVec.allOnes 24 ↔ x = BitVec.allOnes 24 ∧ y = BitVec.allOnes 24) ∧
  ∀ x y : Addr, add15 x y = BitVec.allOnes 15 ↔ x = BitVec.allOnes 15 ∧ y = BitVec.allOnes 15

/-- `ovf24` holds exactly where the signs say so, and exactly where the true sum exceeds the capacity of A; where it
does not hold the sum has the value of the true sum (R12). R12 marks the equivalence as derived. -/
def Obligations.OverflowIsExcessOfCapacity : Prop :=
  ∀ x y : Word,
    (ovf24 x y (add24 x y) = true ↔ signBit x = signBit y ∧ signBit (add24 x y) ≠ signBit x) ∧
    (ovf24 x y (add24 x y) = true ↔
      val24 x + val24 y < -(2 ^ 23 - 1) ∨ 2 ^ 23 - 1 < val24 x + val24 y) ∧
    (ovf24 x y (add24 x y) = false → val24 (add24 x y) = val24 x + val24 y)

/-- The 48-bit product of MUI has the value of the product of the operands. The spec's own inference (R156(d)) over
its decision D12. -/
def Obligations.ProductHasTheValue : Prop :=
  ∀ a c : Word, val48 (product48 a c) = val24 a * val24 c

/-- DVI without a fault divides with truncation toward zero, and the fault is there exactly where the divisor is zero
or the magnitude of the quotient is 2^23 or more. The spec's own inference (R156(e)) over its decision D12. -/
def Obligations.DivisionTruncates : Prop :=
  ∀ (d : Long) (v : Word),
    (divideFaults d v = true ↔ val24 v = 0 ∨ 2 ^ 23 ≤ (val48 d).natAbs / (val24 v).natAbs) ∧
    (divideFaults d v = false →
      val48 d = val24 (quotient24 d v) * val24 v + val24 (remainder24 d v) ∧
      (val24 (remainder24 d v)).natAbs < (val24 v).natAbs ∧
      (val24 (remainder24 d v) ≠ 0 → (val24 (remainder24 d v) < 0 ↔ val48 d < 0)))

/-- A shift by K is K shifts by one place; a circular shift by K is one by K modulo the width, and a right shift by the
width less one or more leaves the sign alone. -/
def Obligations.ShiftsAreOnePlaceShifts : Prop :=
  (∀ (x : Word) (n : Nat),
    asr24 x 0 = x ∧ asr24 x (n + 1) = rightOne24 (asr24 x n) ∧ rotl24 x 0 = x ∧
    rotl24 x (n + 1) = leftOne24 (rotl24 x n) ∧ rotl24 x n = rotl24 x (n % 24) ∧
    (23 ≤ n → asr24 x n = if signBit x then BitVec.allOnes 24 else 0)) ∧
  ∀ (x : Long) (n : Nat),
    asr48 x 0 = x ∧ asr48 x (n + 1) = rightOne48 (asr48 x n) ∧ rotl48 x 0 = x ∧
    rotl48 x (n + 1) = leftOne48 (rotl48 x n) ∧ rotl48 x n = rotl48 x (n % 48) ∧
    (47 ≤ n → asr48 x n = if x.getLsbD 47 then BitVec.allOnes 48 else 0)

/-- Scaling shifts left circularly as long as the count lasts and the bit below the sign equals it, and doubles the
value at each place; either zero is left alone. The zero test of AQ is the spec's decision D31; that the value doubles
is its inference (R187). -/
def Obligations.ScalingNormalises : Prop :=
  (∀ (a : Word) (k : Addr),
    (scaleA a k).2 ≤ k.toNat ∧ (scaleA a k).1 = rotl24 a (k.toNat - (scaleA a k).2) ∧
    val24 (scaleA a k).1 = val24 a * 2 ^ (k.toNat - (scaleA a k).2) ∧
    (isZero a = true → (scaleA a k).2 = k.toNat) ∧
    (isZero a = false → (scaleA a k).2 = 0 ∨ (scaleA a k).1.getLsbD 23 ≠ (scaleA a k).1.getLsbD 22) ∧
    ∀ j, j < k.toNat - (scaleA a k).2 → (rotl24 a j).getLsbD 23 = (rotl24 a j).getLsbD 22) ∧
  ∀ (t : Long) (k : Addr),
    (scaleAQ t k).2 ≤ k.toNat ∧ (scaleAQ t k).1 = rotl48 t (k.toNat - (scaleAQ t k).2) ∧
    val48 (scaleAQ t k).1 = val48 t * 2 ^ (k.toNat - (scaleAQ t k).2) ∧
    (val48 t = 0 → (scaleAQ t k).2 = k.toNat) ∧
    (val48 t ≠ 0 → (scaleAQ t k).2 = 0 ∨ (scaleAQ t k).1.getLsbD 47 ≠ (scaleAQ t k).1.getLsbD 46) ∧
    ∀ j, j < k.toNat - (scaleAQ t k).2 → (rotl48 t j).getLsbD 47 = (rotl48 t j).getLsbD 46

/-! ### Storage and addresses -/

/-- Storage reads as it was last written: a store answers a next state, the word reads as stored, every other location
reads as before, and nothing but storage changes; a store of an address portion keeps bits 23 to 15. -/
def Obligations.StorageReadsAsWritten : Prop :=
  ∀ (s : State) (a : Addr) (n : Nat), s.Leads a n →
    (∀ v : Word, ∃ t, s.writeWord a v = .next t ∧ s.StoredAt t n v ∧ s.SameButStorage t ∧ t.Reads a v) ∧
    (∀ v : Addr, ∃ t, s.writeAddr a v = .next t ∧ s.StoredAt t n (withAddressPart (s.word n) v) ∧
      s.SameButStorage t ∧ addressPart (t.word n) = v ∧
      (t.word n).extractLsb' 15 9 = (s.word n).extractLsb' 15 9)

/-- Where an address leads, and what becomes of a reference that leads to no installed word, under each value of the
parameter `oob_policy` (the model's reading of D1, log entry 4). -/
def Obligations.AbsentStorageFollowsPolicy : Prop :=
  ∀ (s : State) (a : Addr),
    (a.toNat < s.inst.size.words → s.Leads a a.toNat ∧ s.Reads a (s.word a.toNat)) ∧
    (s.inst.size.words ≤ a.toNat →
      (s.inst.oob = .fault → s.readWord a = .error (.storageAbsent a) ∧ exec (.lda 0 a) s = .fault (.storageAbsent a) ∧
        exec (.sta 0 a) s = .fault (.storageAbsent a)) ∧
      (s.inst.oob = .wrap → s.Leads a (a.toNat % s.inst.size.words)) ∧
      (s.inst.oob = .anyValue → (∃ w, s.Reads a w) ∧ exec (.sta 0 a) s = .next { s with p := s.next }))

/-- The designators 1 to 6 name the six index registers, 0 and 7 name none; `modify` adds nothing for 0 and the
register, in one's complement, for 1 to 6 (R95). The subtractive form of the sum is the spec's decision D5. -/
def Obligations.ModifyAddsTheRegister : Prop :=
  ∀ (s : State) (m : Addr),
    s.modify 0 m = m ∧ s.modify 1 m = add15 m s.b.b1 ∧ s.modify 2 m = add15 m s.b.b2 ∧
    s.modify 3 m = add15 m s.b.b3 ∧ s.modify 4 m = add15 m s.b.b4 ∧ s.modify 5 m = add15 m s.b.b5 ∧
    s.modify 6 m = add15 m s.b.b6 ∧
    (∀ d i, indexOf d = some i → s.modify d m = add15 m (s.b.get i)) ∧
    (∀ d, indexOf d = none ↔ d = 0 ∨ d = 7) ∧
    (m ≠ 0 → m ≠ 0o77777 → add15 m 0o77777 = m) ∧ add15 0 0o77777 = 0 ∧ add15 0o77777 0 = 0 ∧
    add15 0o00100 0o77776 = 0o00077 ∧
    ∀ x : Addr, add15 m x = 0o77777 ↔ m = 0o77777 ∧ x = 0o77777

/-- `resolve` is the loop of R96: with designator 7 it reads the word at m and goes on with that word's designator and
address, to any depth; with any other it is done; and it never ends with designator 7. -/
def Obligations.ResolveFollowsTheChain : Prop :=
  ∀ (s : State) (b : Desig) (m : Addr),
    (b ≠ 7 → s.Resolves b m b m) ∧
    (b = 7 → ∀ w, s.Reads m w → s.resolve b m = s.resolve (desigField w) (addrField w)) ∧
    ∀ d m1, s.Resolves b m d m1 → d ≠ 7

/-- `resolve` answers the fault of an endless chain exactly where the chain has no end (the model's form of the hang of
R96, log entry 7). -/
def Obligations.EndlessChainIsEndless : Prop :=
  ∀ (s : State) (b : Desig) (m : Addr),
    s.resolve b m = .error .endlessIndirect ↔
      b = 7 ∧ ∃ chain : Nat → Addr, chain 0 = m ∧
        ∀ k, ∃ w, s.Reads (chain k) w ∧ desigField w = 7 ∧ addrField w = chain (k + 1)

/-! ### Full-word and address transmission -/

/-- LDA, LAC, LDQ, LQC (R131 to R134). What is said of U is the spec's decision D28 (log entry 16). -/
def Obligations.LoadsComplete : Prop :=
  ∀ (s : State) (b d : Desig) (m m1 : Addr) (w : Word), s.Resolves b m d m1 → s.Reads (s.modify d m1) w →
    exec (.lda b m) s = .next { s with a := w, p := s.next, u := s.uAfter b d m1 } ∧
    exec (.lac b m) s = .next { s with a := cpl24 w, p := s.next, u := s.uAfter b d m1 } ∧
    exec (.ldq b m) s = .next { s with q := w, p := s.next, u := s.uAfter b d m1 } ∧
    exec (.lqc b m) s = .next { s with q := cpl24 w, p := s.next, u := s.uAfter b d m1 }

/-- STA, STQ (R135, R136) and STL (R173). What is said of U is the spec's decision D28 (log entry 16). -/
def Obligations.StoresComplete : Prop :=
  ∀ (s : State) (b d : Desig) (m m1 : Addr) (n : Nat), s.Resolves b m d m1 → s.Leads (s.modify d m1) n →
    (∃ t, exec (.sta b m) s = .next t ∧ s.StoredAt t n s.a ∧
      t = { s with mem := t.mem, p := s.next, u := s.uAfter b d m1 }) ∧
    (∃ t, exec (.stq b m) s = .next t ∧ s.StoredAt t n s.q ∧
      t = { s with mem := t.mem, p := s.next, u := s.uAfter b d m1 }) ∧
    (∃ t, exec (.stl b m) s = .next t ∧ s.StoredAt t n (s.q &&& s.a) ∧
      t = { s with mem := t.mem, p := s.next, u := s.uAfter b d m1 })

/-- XAQ, CMA, CMQ (R137, R174, R175); with designator 7 the designator at the end of the chain selects among them and
the illegal codes (R102), at which the computer stops (R271). That designator 7 is indirect here is the spec's decision
D9; that P stays at the illegal word is decision D19 (log entry 19); what is said of U is decision D28 (log entry 16).
`uSet` is the model's own bit (log entry 18). -/
def Obligations.Code52Completes : Prop :=
  ∀ (s : State) (m : Addr),
    exec (.xaq m) s = .next { s with a := s.q, q := s.a, p := s.next } ∧
    exec (.cma m) s = .next { s with a := cpl24 s.a, p := s.next } ∧
    exec (.cmq m) s = .next { s with q := cpl24 s.q, p := s.next } ∧
    ∀ (d : Desig) (m1 : Addr), s.Resolves 7 m d m1 →
      (d = 0 → exec (.indirect52 m) s = .next { s with a := s.q, q := s.a, p := s.next, u := s.uAfter 7 d m1 }) ∧
      (d = 1 → exec (.indirect52 m) s = .next { s with a := cpl24 s.a, p := s.next, u := s.uAfter 7 d m1 }) ∧
      (d = 2 → exec (.indirect52 m) s = .next { s with q := cpl24 s.q, p := s.next, u := s.uAfter 7 d m1 }) ∧
      (3 ≤ d.toNat → exec (.indirect52 m) s =
        .next { s with u := s.uAfter 7 d m1, panel := { s.panel with run := .stopped, uSet := false } })

/-- SIL (R142) and SAL (R143): only the address portion of the word is replaced. What is said of U is the spec's
decision D28 (log entry 16). -/
def Obligations.AddressStoresComplete : Prop :=
  ∀ (s : State) (b d : Desig) (m m1 : Addr) (n : Nat), s.Resolves b m d m1 →
    (d = 0 → s.Leads m1 n → ∃ t, exec (.sil b m) s = .next t ∧
      s.StoredAt t n (withAddressPart (s.word n) 0o77777) ∧
      t = { s with mem := t.mem, p := s.next, u := s.uAfter b d m1 }) ∧
    (∀ i, indexOf d = some i → s.Leads m1 n → ∃ t, exec (.sil b m) s = .next t ∧
      s.StoredAt t n (withAddressPart (s.word n) (s.b.get i)) ∧
      t = { s with mem := t.mem, p := s.next, u := s.uAfter b d m1 }) ∧
    (s.Leads (s.modify d m1) n → ∃ t, exec (.sal b m) s = .next t ∧
      s.StoredAt t n (withAddressPart (s.word n) (addressPart s.a)) ∧
      t = { s with mem := t.mem, p := s.next, u := s.uAfter b d m1 })

/-- ENA (R144) and ENQ (R145): the modified operand with its sign extended. What is said of U is the spec's decision
D28 (log entry 16). -/
def Obligations.EntersComplete : Prop :=
  ∀ (s : State) (b d : Desig) (y y1 : Addr), s.Resolves b y d y1 →
    exec (.ena b y) s = .next { s with a := sext15 (s.modify d y1), p := s.next, u := s.uAfter b d y1 } ∧
    exec (.enq b y) s = .next { s with q := sext15 (s.modify d y1), p := s.next, u := s.uAfter b d y1 } ∧
    ∀ (v : Addr) (k : Nat), k < 24 → (sext15 v).getLsbD k = v.getLsbD (min k 14)

/-- LIL (R141), ATI, QTI (R146, R147), ENI (R148), INI (R162) and TAL (R154): the register named gets the quantity;
with none named each is a pass. That ATI, QTI and TAL are passes with none named is the spec's decision D10. -/
def Obligations.IndexWritersComplete : Prop :=
  ∀ (s : State) (b d : Desig) (m m1 : Addr), s.Resolves b m d m1 →
    (d = 0 → ∀ x : Instr,
      x = .lil b m ∨ x = .ati b m ∨ x = .qti b m ∨ x = .eni b m ∨ x = .ini b m ∨ x = .tal b m →
      exec x s = .next { s with p := s.next, u := s.uAfter b d m1 }) ∧
    ∀ i, indexOf d = some i →
      (∀ w, s.Reads m1 w → exec (.lil b m) s =
        .next { s with b := s.b.set i (addressPart w), p := s.next, u := s.uAfter b d m1 }) ∧
      exec (.ati b m) s = .next { s with b := s.b.set i (addressPart s.a), p := s.next, u := s.uAfter b d m1 } ∧
      exec (.qti b m) s = .next { s with b := s.b.set i (addressPart s.q), p := s.next, u := s.uAfter b d m1 } ∧
      exec (.eni b m) s = .next { s with b := s.b.set i m1, p := s.next, u := s.uAfter b d m1 } ∧
      exec (.ini b m) s =
        .next { s with b := s.b.set i (add15 m1 (s.b.get i)), p := s.next, u := s.uAfter b d m1 } ∧
      exec (.tal b m) s =
        .next { s with b := s.b.set i (BitVec.ofNat 15 (popcount24 s.a)), p := s.next, u := s.uAfter b d m1 }

/-! ### Arithmetic instructions -/

/-- ADD, SUB (R150, R151), ADL, SBL (R171, R172): the one's complement sum goes to A, and `OverflowFault` is set where
the capacity of A is exceeded. The wrapped sum kept on overflow, and the fault of ADL and SBL, are the spec's decision
D7. -/
def Obligations.SumsComplete : Prop :=
  ∀ (s : State) (b d : Desig) (m m1 : Addr) (w : Word), s.Resolves b m d m1 → s.Reads (s.modify d m1) w →
    exec (.add b m) s = .next
      { s with a := add24 s.a w, ind := s.ind.withOverflow (ovf24 s.a w (add24 s.a w)), p := s.next,
               u := s.uAfter b d m1 } ∧
    exec (.sub b m) s = .next
      { s with a := add24 s.a (cpl24 w), ind := s.ind.withOverflow (ovf24 s.a (cpl24 w) (add24 s.a (cpl24 w))),
               p := s.next, u := s.uAfter b d m1 } ∧
    exec (.adl b m) s = .next
      { s with a := add24 s.a (s.q &&& w), ind := s.ind.withOverflow (ovf24 s.a (s.q &&& w) (add24 s.a (s.q &&& w))),
               p := s.next, u := s.uAfter b d m1 } ∧
    exec (.sbl b m) s = .next
      { s with a := sub24 s.a (s.q &&& w),
               ind := s.ind.withOverflow (ovf24 s.a (cpl24 (s.q &&& w)) (sub24 s.a (s.q &&& w))),
               p := s.next, u := s.uAfter b d m1 }

/-- INA (R161) and INQ (R163): the modified operand, sign extended, is added; INQ sets `OverflowFault` only where the
parameter `inq_sets_overflow` is true. The fault of INA and the parameter are the spec's decision D7, the sum in Q its
decision D8. -/
def Obligations.IncreasesComplete : Prop :=
  ∀ (s : State) (b d : Desig) (y y1 : Addr), s.Resolves b y d y1 →
    let t := sext15 (s.modify d y1)
    exec (.ina b y) s = .next
      { s with a := add24 s.a t, ind := s.ind.withOverflow (ovf24 s.a t (add24 s.a t)), p := s.next,
               u := s.uAfter b d y1 } ∧
    (s.inst.inqSetsOverflow = true → exec (.inq b y) s = .next
      { s with q := add24 s.q t, ind := s.ind.withOverflow (ovf24 s.q t (add24 s.q t)), p := s.next,
               u := s.uAfter b d y1 }) ∧
    (s.inst.inqSetsOverflow = false → exec (.inq b y) s = .next
      { s with q := add24 s.q t, p := s.next, u := s.uAfter b d y1 })

/-- MUI (R152): the product of A and the operand is left in QA; Q's initial contents are lost, and no indicator is
written. The signs of zero products are the spec's decision D12. -/
def Obligations.MultiplyCompletes : Prop :=
  ∀ (s : State) (b d : Desig) (m m1 : Addr) (w : Word), s.Resolves b m d m1 → s.Reads (s.modify d m1) w →
    exec (.mui b m) s = .next
      { s with q := highHalf (product48 s.a w), a := lowHalf (product48 s.a w), p := s.next, u := s.uAfter b d m1 } ∧
    joinLong (highHalf (product48 s.a w)) (lowHalf (product48 s.a w)) = product48 s.a w

/-- DVI (R153): without a fault the quotient goes to A and the remainder to Q; with one `DivideFault` is set, A and Q
hold some values, and the machine goes on. The free values are decision D11 (log entry 6), the signs of zero results
decision D12. -/
def Obligations.DivideCompletes : Prop :=
  ∀ (s : State) (b d : Desig) (m m1 : Addr) (v : Word), s.Resolves b m d m1 → s.Reads (s.modify d m1) v →
    (divideFaults (joinLong s.q s.a) v = false →
      exec (.dvi b m) s = .next
        { s with a := quotient24 (joinLong s.q s.a) v, q := remainder24 (joinLong s.q s.a) v, p := s.next,
                 u := s.uAfter b d m1 }) ∧
    (divideFaults (joinLong s.q s.a) v = true →
      ∃ x y, exec (.dvi b m) s = .next
        { s with a := x, q := y, ind := { s.ind with divide := true }, p := s.next, u := s.uAfter b d m1,
                 free := s.free + 2 })

/-! ### Logical instructions, shifts, replace -/

/-- SST, SCM, SCL, SSU, LDL (R166 to R170). What is said of U is the spec's decision D28 (log entry 16). -/
def Obligations.SelectivesComplete : Prop :=
  ∀ (s : State) (b d : Desig) (m m1 : Addr) (w : Word), s.Resolves b m d m1 → s.Reads (s.modify d m1) w →
    exec (.sst b m) s = .next { s with a := s.a ||| w, p := s.next, u := s.uAfter b d m1 } ∧
    exec (.scm b m) s = .next { s with a := s.a ^^^ w, p := s.next, u := s.uAfter b d m1 } ∧
    exec (.scl b m) s = .next { s with a := s.a &&& cpl24 w, p := s.next, u := s.uAfter b d m1 } ∧
    exec (.ssu b m) s = .next
      { s with a := (s.a &&& cpl24 s.q) ||| (w &&& s.q), p := s.next, u := s.uAfter b d m1 } ∧
    exec (.ldl b m) s = .next { s with a := s.q &&& w, p := s.next, u := s.uAfter b d m1 }

/-- ARS, QRS, LRS, LLS, QLS, ALS (R181 to R186): exactly K places, K unsigned; `ShiftFault` where K exceeds 63. The
unsigned count is the spec's decision D32. -/
def Obligations.ShiftsComplete : Prop :=
  ∀ (s : State) (b d : Desig) (k k1 : Addr), s.Resolves b k d k1 →
    let n := s.modify d k1
    let aq := joinLong s.a s.q
    let i := s.ind.withShift n
    let u := s.uAfter b d k1
    exec (.ars b k) s = .next { s with a := asr24 s.a n.toNat, ind := i, p := s.next, u := u } ∧
    exec (.qrs b k) s = .next { s with q := asr24 s.q n.toNat, ind := i, p := s.next, u := u } ∧
    exec (.als b k) s = .next { s with a := rotl24 s.a n.toNat, ind := i, p := s.next, u := u } ∧
    exec (.qls b k) s = .next { s with q := rotl24 s.q n.toNat, ind := i, p := s.next, u := u } ∧
    exec (.lrs b k) s = .next
      { s with a := highHalf (asr48 aq n.toNat), q := lowHalf (asr48 aq n.toNat), ind := i, p := s.next, u := u } ∧
    exec (.lls b k) s = .next
      { s with a := highHalf (rotl48 aq n.toNat), q := lowHalf (rotl48 aq n.toNat), ind := i, p := s.next, u := u }

/-- SCA (R188) and SCQ (R189): the unmodified k is the count, the residual count goes to the register named, and no
indicator is written; with no register it is lost. The zero test of AQ is the spec's decision D31. -/
def Obligations.ScalesComplete : Prop :=
  ∀ (s : State) (b d : Desig) (k k1 : Addr), s.Resolves b k d k1 →
    let x := scaleA s.a k1
    let y := scaleAQ (joinLong s.a s.q) k1
    let u := s.uAfter b d k1
    (d = 0 →
      exec (.sca b k) s = .next { s with a := x.1, p := s.next, u := u } ∧
      exec (.scq b k) s = .next { s with a := highHalf y.1, q := lowHalf y.1, p := s.next, u := u }) ∧
    ∀ i, indexOf d = some i →
      exec (.sca b k) s = .next { s with a := x.1, b := s.b.set i (BitVec.ofNat 15 x.2), p := s.next, u := u } ∧
      exec (.scq b k) s = .next
        { s with a := highHalf y.1, q := lowHalf y.1, b := s.b.set i (BitVec.ofNat 15 y.2), p := s.next, u := u }

/-- RAD, RSB, RAO, RSO (R196 to R199): the sum goes to A and to M, on overflow too. The wrapped sum kept on overflow
is the spec's decision D7. -/
def Obligations.ReplacesComplete : Prop :=
  ∀ (s : State) (b d : Desig) (m m1 : Addr) (n : Nat), s.Resolves b m d m1 → s.Leads (s.modify d m1) n →
    ∀ (i : Instr) (y : Word),
      (i = .rad b m ∧ y = s.a) ∨ (i = .rsb b m ∧ y = cpl24 s.a) ∨ (i = .rao b m ∧ y = 0o00000001) ∨
        (i = .rso b m ∧ y = 0o77777776) →
      let r := add24 (s.word n) y
      ∃ t, exec i s = .next t ∧ s.StoredAt t n r ∧
        t = { s with a := r, mem := t.mem, ind := s.ind.withOverflow (ovf24 (s.word n) y r), p := s.next,
                     u := s.uAfter b d m1 }

/-! ### Searches, tests, skips -/

/-- The five searches with a register named (R200 to R205).  One turn: with no word left they exit; else the count is
reduced in Bb and the word at m + count tested, a hit being a skip exit; after a miss that was not the last word the
buffer requests due there are served, the oldest gap's first, and the search goes on with the count as it stands.  The
whole search, where no buffer request is due between its words: the first hit from the last word down gives a skip exit
and its offset in Bb; none gives an exit and zero.  The arithmetic of address and count is the spec's decision D15, the
list of requests the model's form of D4 (log entry 15); what is said of U is decision D28 (log entry 16). -/
def Obligations.SearchesComplete : Prop :=
  (∀ s : State, (s.env.searchRequests = [] → s.searchGap = .next s) ∧
    ∀ ts rest, s.env.searchRequests = ts :: rest →
      s.searchGap = { s with env := { s.env with searchRequests := rest } }.serveAll ts) ∧
  ∀ (s : State) (b d : Desig) (m m1 : Addr) (i : Index), s.Resolves b m d m1 → indexOf d = some i →
    ∀ (op : Desig → Addr → Instr) (test : Word → Bool),
      (op = .eqs ∧ test = fun w => w == s.a || (isZero w && isZero s.a)) ∨
      (op = .ths ∧ test = fun w => decide (key s.a < key w)) ∨
      (op = .meq ∧ test = fun w => (s.q &&& w) == s.a || (isZero (s.q &&& w) && isZero s.a)) ∨
      (op = .mth ∧ test = fun w => decide (key s.a < key (s.q &&& w))) ∨
      (op = .pts ∧ test = fun w => (s.a ||| w) == s.a) →
      (s.b.get i = 0 → exec (op b m) s = .next { s with p := s.next, u := s.uAfter b d m1 }) ∧
      (∀ (c : Nat) (w : Word), (s.b.get i).toNat = c + 1 → s.Reads (add15 m1 (BitVec.ofNat 15 c)) w →
        let s1 : State := { s with b := s.b.set i (BitVec.ofNat 15 c), u := s.uAfter b d m1 }
        (test w = true → exec (op b m) s = .next { s1 with p := s.nextButOne }) ∧
        (test w = false → c = 0 → exec (op b m) s = .next { s1 with p := s.next }) ∧
        (test w = false → 0 < c →
          exec (op b m) s = andThen s1.searchGap fun s2 => exec (op d m1) s2)) ∧
      (s.env.searchRequests = [] →
        (∀ c, s.SearchHits test m1 (s.b.get i).toNat c →
          exec (op b m) s = .next
            { s with b := s.b.set i (BitVec.ofNat 15 c), p := s.nextButOne, u := s.uAfter b d m1 }) ∧
        (s.SearchMisses test m1 (s.b.get i).toNat →
          exec (op b m) s = .next { s with b := s.b.set i 0, p := s.next, u := s.uAfter b d m1 }))

/-- The five searches with designator 0: only the word at m is searched (R200). -/
def Obligations.SingleWordSearchesComplete : Prop :=
  ∀ (s : State) (b d : Desig) (m m1 : Addr) (w : Word), s.Resolves b m d m1 → d = 0 → s.Reads m1 w →
    ∀ (x : Instr) (found : Bool),
      (x = .eqs b m ∧ found = (w == s.a || (isZero w && isZero s.a))) ∨
      (x = .ths b m ∧ found = decide (key s.a < key w)) ∨
      (x = .meq b m ∧ found = ((s.q &&& w) == s.a || (isZero (s.q &&& w) && isZero s.a))) ∨
      (x = .mth b m ∧ found = decide (key s.a < key (s.q &&& w))) ∨
      (x = .pts b m ∧ found = ((s.a ||| w) == s.a)) →
      exec x s = .next { s with p := if found then s.nextButOne else s.next, u := s.uAfter b d m1 }

/-- SSK (R207) and SSH (R208): a skip exit where the word was negative; SSH shifts it left circularly one place. What
is said of U is the spec's decision D28 (log entry 16). -/
def Obligations.StorageTestsComplete : Prop :=
  ∀ (s : State) (b d : Desig) (m m1 : Addr), s.Resolves b m d m1 →
    (∀ w, s.Reads (s.modify d m1) w → exec (.ssk b m) s = .next
      { s with p := if w.getLsbD 23 then s.nextButOne else s.next, u := s.uAfter b d m1 }) ∧
    (∀ n, s.Leads (s.modify d m1) n → ∃ t, exec (.ssh b m) s = .next t ∧
      s.StoredAt t n (leftOne24 (s.word n)) ∧
      t = { s with mem := t.mem, p := if (s.word n).getLsbD 23 then s.nextButOne else s.next, u := s.uAfter b d m1 })

/-- ISK, SKH, SKL with a register named (R210 to R212); with none they are refused (D14). The unsigned comparison and
A unchanged are the spec's decision D13. -/
def Obligations.IndexSkipsComplete : Prop :=
  ∀ (s : State) (b d : Desig) (y y1 : Addr), s.Resolves b y d y1 →
    (∀ i, indexOf d = some i →
      (s.b.get i = y1 → exec (.isk b y) s = .next
        { s with b := s.b.set i 0, p := s.nextButOne, u := s.uAfter b d y1 }) ∧
      (s.b.get i ≠ y1 → exec (.isk b y) s = .next
        { s with b := s.b.set i (s.b.get i + 1), p := s.next, u := s.uAfter b d y1 }) ∧
      exec (.skh b y) s = .next
        { s with p := if y1.toNat ≤ (s.b.get i).toNat then s.next else s.nextButOne, u := s.uAfter b d y1 } ∧
      exec (.skl b y) s = .next
        { s with p := if y1.toNat ≤ (s.b.get i).toNat then s.nextButOne else s.next, u := s.uAfter b d y1 }) ∧
    (d = 0 → exec (.isk b y) s = .refused .noIndexRegister ∧ exec (.skh b y) s = .refused .noIndexRegister ∧
      exec (.skl b y) s = .refused .noIndexRegister)

/-! ### Jumps and stops -/

/-- AJP and QJP (R217 to R219): the low two bits of j select the condition zero, not zero, plus or minus, either zero
being zero; the high bit makes the jump a return jump; with the condition false the instruction exits. -/
def Obligations.RegisterJumpsComplete : Prop :=
  (∀ (j : Desig) (r : Word),
    (j.toNat % 4 = 0 → (condition j r = true ↔ r = 0 ∨ r = 0o77777777)) ∧
    (j.toNat % 4 = 1 → (condition j r = true ↔ r ≠ 0 ∧ r ≠ 0o77777777)) ∧
    (j.toNat % 4 = 2 → (condition j r = true ↔ r.getLsbD 23 = false)) ∧
    (j.toNat % 4 = 3 → (condition j r = true ↔ r.getLsbD 23 = true))) ∧
  ∀ (s : State) (j : Desig) (m : Addr) (i : Instr) (r : Word),
    (i = .ajp j m ∧ r = s.a) ∨ (i = .qjp j m ∧ r = s.q) →
    (condition j r = false → exec i s = .next { s with p := s.next }) ∧
    (condition j r = true → j.toNat < 4 → exec i s = .next { s with p := m }) ∧
    (condition j r = true → 4 ≤ j.toNat → ∀ n, s.Leads m n → ∃ t, exec i s = .next t ∧
      s.StoredAt t n (withAddressPart (s.word n) s.next) ∧ t = { s with mem := t.mem, p := m + 1 })

/-- SLJ (R220): as AJP, on the setting of a jump key, or unconditionally. -/
def Obligations.SelectiveJumpCompletes : Prop :=
  ∀ (s : State) (j : Desig) (m : Addr),
    let set := j.toNat % 4 = 0 ∨ (j.toNat % 4 = 1 ∧ s.panel.jumpKey.k1 = true) ∨
      (j.toNat % 4 = 2 ∧ s.panel.jumpKey.k2 = true) ∨ (j.toNat % 4 = 3 ∧ s.panel.jumpKey.k3 = true)
    (¬set → exec (.slj j m) s = .next { s with p := s.next }) ∧
    (set → j.toNat < 4 → exec (.slj j m) s = .next { s with p := m }) ∧
    (set → 4 ≤ j.toNat → ∀ n, s.Leads m n → ∃ t, exec (.slj j m) s = .next t ∧
      s.StoredAt t n (withAddressPart (s.word n) s.next) ∧ t = { s with mem := t.mem, p := m + 1 })

/-- SLS (R221): where the stop key says so the computer stops with P at the SLS and the jump pending; else it jumps.
The order of stop and jump is the spec's decision D33. `uSet` is the model's own bit (log entry 18). -/
def Obligations.SelectiveStopCompletes : Prop :=
  ∀ (s : State) (j : Desig) (m : Addr),
    let set := j.toNat % 4 = 0 ∨ (j.toNat % 4 = 1 ∧ s.panel.stopKey.k1 = true) ∨
      (j.toNat % 4 = 2 ∧ s.panel.stopKey.k2 = true) ∨ (j.toNat % 4 = 3 ∧ s.panel.stopKey.k3 = true)
    (set → exec (.sls j m) s = .next
      { s with panel := { s.panel with run := .stopped, slsPending := true, uSet := false } }) ∧
    (¬set → j.toNat < 4 → exec (.sls j m) s = .next { s with p := m }) ∧
    (¬set → 4 ≤ j.toNat → ∀ n, s.Leads m n → ∃ t, exec (.sls j m) s = .next t ∧
      s.StoredAt t n (withAddressPart (s.word n) s.next) ∧ t = { s with mem := t.mem, p := m + 1 })

/-- When the operator presses START or STEP in a computer that stopped in an SLS, the pending jump, which U still holds,
is made, and no interrupt is taken before it; after START the computer runs on, after STEP it stops again (R221, R287,
R291). The order of stop and jump is the spec's decision D33, the step D39; that the jump is read from U is log entry
17, what becomes of `stepOne` and `uSet` log entry 18, that the jump of an SLS at 00016 ends the lockout decision D18
(log entry 20); the other fields of the model's own rest on log entries 6, 13 and 14. -/
def Obligations.PendingJumpIsMadeAtStart : Prop :=
  ∀ s : State, s.panel.run = .stopped → s.panel.slsPending = true → s.nextBoundary.after = [] →
    ∀ run : RunState, (s.nextBoundary.events = [.start] ∧ run = .running) ∨
      (s.nextBoundary.events = [.step] ∧ run = .stopped) →
    let m := addrField s.u
    let after : Panel := { s.panel with run := run, slsPending := false, stepOne := false, uSet := false }
    let past : Environment := { s.env with schedule := s.env.schedule.drop 1 }
    ((desigField s.u).toNat < 4 → step s = .next
      { s with p := m, panel := after, env := past, intr := s.intr.afterCompleted s.p, free := s.free + 1 }) ∧
    (4 ≤ (desigField s.u).toNat → ∀ n, s.Leads m n → ∃ t, step s = .next t ∧
      s.StoredAt t n (withAddressPart (s.word n) s.next) ∧
      t = { s with p := m + 1, mem := t.mem, panel := after, env := past, intr := s.intr.afterCompleted s.p,
                   free := s.free + 1 })

/-- UJP (R222), IJP (R223) and URJ (R224). What is said of U is the spec's decision D28 (log entry 16). -/
def Obligations.UnconditionalAndIndexJumpsComplete : Prop :=
  ∀ (s : State) (b d : Desig) (m m1 : Addr), s.Resolves b m d m1 →
    exec (.ujp b m) s = .next { s with p := s.modify d m1, u := s.uAfter b d m1 } ∧
    (∀ n, s.Leads (s.modify d m1) n → ∃ t, exec (.urj b m) s = .next t ∧
      s.StoredAt t n (withAddressPart (s.word n) s.next) ∧
      t = { s with mem := t.mem, p := s.modify d m1 + 1, u := s.uAfter b d m1 }) ∧
    (d = 0 → exec (.ijp b m) s = .next { s with p := s.next, u := s.uAfter b d m1 }) ∧
    ∀ i, indexOf d = some i →
      (s.b.get i = 0 → exec (.ijp b m) s = .next { s with p := s.next, u := s.uAfter b d m1 }) ∧
      (s.b.get i ≠ 0 → exec (.ijp b m) s = .next
        { s with b := s.b.set i (s.b.get i - 1), p := m1, u := s.uAfter b d m1 })

/-- The illegal codes stop the computer and change nothing else; P stays at the illegal word (R271). That P stays is
the spec's decision D19; `uSet` is the model's own bit (log entry 18). -/
def Obligations.IllegalCodesStop : Prop :=
  ∀ (s : State) (i : Instr),
    (∃ b m, i = .fault00 b m ∨ i = .fault77 b m) ∨
      (∃ m, i = .fault52d3 m ∨ i = .fault52d4 m ∨ i = .fault52d5 m ∨ i = .fault52d6 m) →
    exec i s = .next { s with panel := { s.panel with run := .stopped, uSet := false } }

/-- XEC executes the word at M with P unchanged and that word in U, whatever it is, another XEC included (R225, R226).
P unchanged and nesting are the spec's decision D17. -/
def Obligations.ExecuteRunsTheTarget : Prop :=
  ∀ (s : State) (b d : Desig) (m m1 : Addr) (w : Word), s.Resolves b m d m1 → s.Reads (s.modify d m1) w →
    exec (.xec b m) s = exec (decode w) { s with u := w }

/-- XEC of each of four words, written with designator 0: of ENA the main sequence is continued after the XEC, of SSK
over a negative word two words after it, of UJP at the jump's address, and of URJ, which stores the address after the
XEC (R226; the law for every word is ExecuteRunsTheTarget). The continuations are the spec's decision D17. -/
def Obligations.ExecuteCompletes : Prop :=
  ∀ (s : State) (b d : Desig) (m m1 : Addr) (w : Word), s.Resolves b m d m1 → s.Reads (s.modify d m1) w →
    (∀ y, w = makeWord 0o10 0 y → exec (.xec b m) s = .next { s with a := sext15 y, p := s.next, u := w }) ∧
    (∀ x, w = makeWord 0o32 0 x → exec (.xec b m) s = .next { s with p := x, u := w }) ∧
    (∀ x v, w = makeWord 0o36 0 x → s.Reads x v → v.getLsbD 23 = true →
      exec (.xec b m) s = .next { s with p := s.nextButOne, u := w }) ∧
    (∀ x n, w = makeWord 0o33 0 x → s.Leads x n → ∃ t, exec (.xec b m) s = .next t ∧
      s.StoredAt t n (withAddressPart (s.word n) s.next) ∧ t = { s with mem := t.mem, p := x + 1, u := w })

/-! ### External function -/

/-- The internal select codes (R245). -/
def Obligations.InternalSelectsComplete : Prop :=
  ∀ s : State,
    (∀ c : Channel,
      exec (.exfSelect (efCode 0 (8 * c.number))) s = .next
        { s with intr := { s.intr with selInactive := s.intr.selInactive.set c true }, p := s.next } ∧
      exec (.exfSelect (efCode 0 (8 * c.number + 1))) s = .next
        { s with intr := { s.intr with selInactive := s.intr.selInactive.set c false }, p := s.next }) ∧
    exec (.exfSelect 0o00070) s = .next
      { s with ind := { s.ind with divide := false, shift := false, overflow := false }, p := s.next } ∧
    exec (.exfSelect 0o00100) s = .next { s with intr := { s.intr with selArith := true }, p := s.next } ∧
    exec (.exfSelect 0o00101) s = .next { s with intr := { s.intr with selArith := false }, p := s.next } ∧
    exec (.exfSelect 0o01000) s = .next { s with intr := { s.intr with selRtc := true }, p := s.next } ∧
    exec (.exfSelect 0o01001) s = .next
      { s with intr := { s.intr with selRtc := false, rtcRequest := false }, p := s.next }

/-- The buffer mode select codes 040XY (R247): the pairs of the set X get the mode Y, where no channel of them is
active and the code is not given between the reader select and its activate. The premises are what the model refuses
(log entry 24). -/
def Obligations.BufferModeSelectCompletes : Prop :=
  ∀ (s : State) (x : BitVec 3) (mode : BufMode), x ≠ 0 →
    (x.getLsbD 0 = true → s.chan.active.c1 = false ∧ s.chan.active.c2 = false ∧
      (s.con.readerArmed = true → mode = .bits24)) →
    (x.getLsbD 1 = true → s.chan.active.c3 = false ∧ s.chan.active.c4 = false) →
    (x.getLsbD 2 = true → s.chan.active.c5 = false ∧ s.chan.active.c6 = false) →
    exec (.exfSelect (efCode 0 (0o4000 + 8 * x.toNat + mode.digit))) s = .next
      { s with
        chan := { s.chan with
          mode :=
            { p12 := if x.getLsbD 0 then mode else s.chan.mode.p12
              p34 := if x.getLsbD 1 then mode else s.chan.mode.p34
              p56 := if x.getLsbD 2 then mode else s.chan.mode.p56 } }
        p := s.next }

/-- The channel clears (R248) and the select codes of the console's reader and punch (R249, R251), for every state: a
reader or punch select is carried out where its channel is inactive, or is used by no equipment or by itself, and is
refused where another equipment uses the active channel (R259). The model's choices: that a channel clear is also
delivered to the equipment (log entry 23), which bits of the interrupt line it drops (28), `readerArmed` (21), which
equipment uses a channel (24 and 36), that a channel clear drops what codes with its digit have selected on either
channel of a pair (36), and that a reader select changes the mode of an active pair (34); the channel clear is
decision D36. -/
def Obligations.ConsoleSelectsComplete : Prop :=
  ∀ s : State,
    let reader : Console := { s.con with readerSelected := true, readerArmed := true }
    let punch : Console := { s.con with punchSelected := true, punchMotor := true }
    let chan1 : ChannelControl :=
      { s.chan with mode := { s.chan.mode with p12 := .bits24 }, user := { s.chan.user with c1 := some ⟨.reader, .c1⟩ } }
    let chan2 : ChannelControl := { s.chan with user := { s.chan.user with c2 := some ⟨.punch, .c2⟩ } }
    (∀ c : Channel, exec (.exfSelect (efCode c.number 0)) s = .next
      { s with
        con := if c = .c1 then { s.con with readerSelected := false, readerArmed := false }
          else if c = .c2 then { s.con with punchSelected := false } else s.con
        chan := { s.chan with user := s.chan.user.clear c }
        env := { s.env with
          interrupt := s.env.interrupt.filter fun e => decide (s.chan.user.clearedBy e ≠ c)
          delivered := s.env.delivered ++ [efCode c.number 0] }
        p := s.next }) ∧
    (¬s.KeptFrom .c1 .reader →
      exec (.exfSelect 0o11200) s = .next
        { s with con := { reader with selReaderEotInt := false }, chan := chan1, p := s.next } ∧
      (∀ x, x < 8 → exec (.exfSelect (efCode 1 (0o1210 + x))) s = .next
        { s with con := { reader with readerEot := true, selReaderEotInt := false }, chan := chan1, p := s.next }) ∧
      exec (.exfSelect 0o11220) s = .next
        { s with con := { reader with selReaderEotInt := true }, chan := chan1, p := s.next }) ∧
    (¬s.KeptFrom .c2 .punch →
      exec (.exfSelect 0o21200) s = .next
        { s with con := { punch with punchMode := .assembly }, chan := chan2, p := s.next } ∧
      exec (.exfSelect 0o21210) s = .next
        { s with con := { punch with punchMode := .character }, chan := chan2, p := s.next }) ∧
    exec (.exfSelect 0o21240) s = .next { s with con := { s.con with punchMotor := false }, p := s.next } ∧
    (s.KeptFrom .c1 .reader →
      ∀ y, y = 0o11200 ∨ y = 0o11220 ∨ (∃ x, x < 8 ∧ y = efCode 1 (0o1210 + x)) →
        exec (.exfSelect y) s = .refused .secondEquipment) ∧
    (s.KeptFrom .c2 .punch →
      exec (.exfSelect 0o21200) s = .refused .secondEquipment ∧
      exec (.exfSelect 0o21210) s = .refused .secondEquipment)

/-- Any other select code with a channel digit goes to the equipment on that channel (R255, R258(a)).  A code that
selects no equipment changes nothing else, whatever the channel is doing; one that selects an equipment makes it the
channel's, and is refused where the channel is active and another equipment uses it (R259).  Which codes select an
equipment: the listed ones, and those of the installation; some select it on both channels of the pair (log entry 36).
The environment's part is the spec's decision D20 (log entries 23 and 24); which equipment uses a channel is log entry
36. -/
def Obligations.ExternalSelectIsDelivered : Prop :=
  (∀ (y : Addr) (x : External) (both : Bool), listedSelect y = some (x, both) ↔ (y.toNat, x, both) ∈ listedSelectCodes) ∧
  ∀ (s : State) (c : Channel) (y : Addr), y.toNat / 0o10000 = c.number → y.toNat % 0o10000 ≠ 0 → ¬consoleCode y →
    let sent : Environment := { s.env with delivered := s.env.delivered ++ [y] }
    ((∀ x both, ¬s.Selects y x both) → exec (.exfSelect y) s = .next { s with env := sent, p := s.next }) ∧
    ∀ x both, s.Selects y x both →
      let e : Equipment := .external x
      let one := s.chan.user.set c (some ⟨e, c⟩)
      let users := if both then one.set c.partner (some ⟨e, c⟩) else one
      (¬s.KeptFrom c e → (both = true → ¬s.KeptFrom c.partner e) →
        exec (.exfSelect y) s = .next { s with env := sent, chan := { s.chan with user := users }, p := s.next }) ∧
      (s.KeptFrom c e ∨ (both = true ∧ s.KeptFrom c.partner e) →
        exec (.exfSelect y) s = .refused .secondEquipment)

/-- The External Function codes that no list names and no external equipment can have are refused (R258(b), D27; log
entry 22 says which codes are console neighbours), and so are the buffer mode selects that R249 and R247 leave without
meaning: one other than 24-bit for the pair 1-2 between reader select and activate, and any other one for a pair with
an active channel (log entries 21 and 24). -/
def Obligations.UnlistedCodesAreRefused : Prop :=
  ∀ (s : State) (y : Addr),
    ((y.toNat < 0o10000 ∧ y.toNat ∉ internalSelectCodes) ∨ 0o70000 ≤ y.toNat ∨
        (consoleCode y ∧ y.toNat ∉ consoleSelectCodes) →
      exec (.exfSelect y) s = .refused (.unlistedCode y)) ∧
    ((y.toNat < 0o10000 ∧ y.toNat ∉ internalSenseCodes) ∨ 0o70000 ≤ y.toNat ∨
        (consoleCode y ∧ y.toNat ∉ consoleSenseCodes) →
      exec (.exfSense y) s = .refused (.unlistedCode y)) ∧
    ∀ (x : BitVec 3) (mode : BufMode), x ≠ 0 → y = efCode 0 (0o4000 + 8 * x.toNat + mode.digit) →
      (s.con.readerArmed = true → x.getLsbD 0 = true → mode ≠ .bits24 →
        exec (.exfSelect y) s = .refused .modeAfterReaderSelect) ∧
      (s.con.readerArmed = false ∨ x.getLsbD 0 = false ∨ mode = .bits24 → s.pairsActive x = true →
        exec (.exfSelect y) s = .refused .modeWhileActive)

/-- The internal sense codes (R246) and those of the console's reader and punch (R250, R252): the even code of each pair
skips on the condition, the odd one on its absence, and nothing else changes. -/
def Obligations.ListedSensesComplete : Prop :=
  ∀ s : State,
    (∀ c : Channel,
      exec (.exfSense (efCode 0 (8 * c.number))) s = .next
        { s with p := if s.chan.active.get c then s.nextButOne else s.next } ∧
      exec (.exfSense (efCode 0 (8 * c.number + 1))) s = .next
        { s with p := if s.chan.active.get c then s.next else s.nextButOne }) ∧
    exec (.exfSense 0o00110) s = .next { s with p := if s.ind.divide then s.nextButOne else s.next } ∧
    exec (.exfSense 0o00111) s = .next { s with p := if s.ind.divide then s.next else s.nextButOne } ∧
    exec (.exfSense 0o00120) s = .next { s with p := if s.ind.shift then s.nextButOne else s.next } ∧
    exec (.exfSense 0o00121) s = .next { s with p := if s.ind.shift then s.next else s.nextButOne } ∧
    exec (.exfSense 0o00130) s = .next { s with p := if s.ind.overflow then s.nextButOne else s.next } ∧
    exec (.exfSense 0o00131) s = .next { s with p := if s.ind.overflow then s.next else s.nextButOne } ∧
    exec (.exfSense 0o11200) s = .next { s with p := if s.con.readerEot then s.nextButOne else s.next } ∧
    exec (.exfSense 0o11201) s = .next { s with p := if s.con.readerEot then s.next else s.nextButOne } ∧
    (s.con.readerMode = .assembly →
      exec (.exfSense 0o11210) s = .next { s with p := s.nextButOne } ∧
      exec (.exfSense 0o11211) s = .next { s with p := s.next }) ∧
    (s.con.readerMode = .character →
      exec (.exfSense 0o11210) s = .next { s with p := s.next } ∧
      exec (.exfSense 0o11211) s = .next { s with p := s.nextButOne }) ∧
    exec (.exfSense 0o21200) s = .next { s with p := if s.con.punchOutOfTape then s.nextButOne else s.next } ∧
    exec (.exfSense 0o21201) s = .next { s with p := if s.con.punchOutOfTape then s.next else s.nextButOne }

/-- Any other sense code with a channel digit is answered by the environment, and nothing but P changes (R237, R255):
a code outside the listed pairs by its own condition; of a pair, by the presence or the absence of the first code's.
Which codes are listed in pairs is spelled out. The environment's answer is the spec's decision D20, the codes taken for
pairs are log entry 23. -/
def Obligations.ExternalSenseIsAnswered : Prop :=
  (∀ y : Addr, pairedExternal y = true ↔ y.toNat ∈ pairedSenseCodes) ∧
  ∀ (s : State) (y : Addr), 0o10000 ≤ y.toNat → y.toNat < 0o70000 → ¬consoleCode y →
    (y.toNat % 2 = 0 ∨ pairedExternal y = false → exec (.exfSense y) s = .next
      { s with p := if y ∈ s.env.conditions then s.nextButOne else s.next }) ∧
    (y.toNat % 2 = 1 → pairedExternal y = true → exec (.exfSense y) s = .next
      { s with p := if y - 1 ∈ s.env.conditions then s.next else s.nextButOne })

/-- Activate (R238), the same for each of the six channels: the starting address goes into the odd control word, and
the channel becomes inactive where it is the terminal address, active where it is not and the channel was inactive; an
active channel given another address is refused (R259, D26). The refusal is the spec's decision D26 (log entry 24);
`readerArmed` is the model's own bit (log entry 21). -/
def Obligations.ActivatesComplete : Prop :=
  ∀ (s : State) (c : Channel) (y : Addr),
    let odd := 2 * c.number + 1
    let terminal := addressPart (s.word (2 * c.number))
    let con : Console := if c = .c1 then { s.con with readerArmed := false } else s.con
    (y = terminal → ∃ t, exec (c.activateInstr y) s = .next t ∧
      s.StoredAt t odd (withAddressPart (s.word odd) y) ∧
      t = { s with mem := t.mem, con := con, chan := { s.chan with active := s.chan.active.set c false },
                   p := s.next }) ∧
    (y ≠ terminal → s.chan.active.get c = false → ∃ t, exec (c.activateInstr y) s = .next t ∧
      s.StoredAt t odd (withAddressPart (s.word odd) y) ∧
      t = { s with mem := t.mem, con := con, chan := { s.chan with active := s.chan.active.set c true },
                   p := s.next }) ∧
    (y ≠ terminal → s.chan.active.get c = true → exec (c.activateInstr y) s = .refused .activateActive)

/-! ### Buffers, reader and punch -/

/-- The transfers of the buffer agent.  One input step (R241): the word is stored at the current address, the odd
control word counts on, and the channel becomes inactive where the new current address is the terminal address.  One
output in 24-bit mode (R242, R254): the word at the current address is sent, to the punch where it is selected, and
storage is not changed except for the odd control word.  The other modes (R244): 160 mode moves twelve bits, zeros above
on input, bit 23 beside them on output, and there a word with bit 23 set is taken by equipment that is not selected too, and
selects it (R256); 1604 mode is two steps with the words in the order of `word48_order`, refused
where the buffer ends between them.  The reader (R253): a frame or four of them make one word; a missing level-7 hole
sets the end-of-tape indicator.  The counting of the current address is the spec's decision D24, the layouts D35; the
model's choices: the records `env.sent` and `env.punched` (log entry 33), what the punch and the reader do outside
24-bit mode (26), the details of the tape (25), how an odd buffer is found (27), which word selects an equipment (35). -/
def Obligations.BufferTransfersComplete : Prop :=
  (∀ (s : State) (c : Channel) (w : Word) (n : Nat),
    let odd := 2 * c.number + 1
    let cur := addressPart (s.word odd)
    s.Leads cur n →
    ∃ t, s.inputStep c w = .next t ∧
      (∀ k, k ≠ odd → t.word k = if k = n then w else s.word k) ∧
      t.word odd = withAddressPart (if odd = n then w else s.word odd) (cur + 1) ∧
      t = { s with
        mem := t.mem
        chan := if cur + 1 = addressPart (t.word (2 * c.number))
          then { s.chan with active := s.chan.active.set c false } else s.chan }) ∧
  (∀ (s : State) (c : OutChannel) (w : Word),
    let odd := 2 * c.channel.number + 1
    let cur := addressPart (s.word odd)
    s.Reads cur w → s.chan.mode.get c.channel.pair = .bits24 →
    ∃ t, s.output c = .next t ∧ s.StoredAt t odd (withAddressPart (s.word odd) (cur + 1)) ∧
      t = { s with
        mem := t.mem
        chan := if cur + 1 = addressPart (s.word (2 * c.channel.number))
          then { s.chan with active := s.chan.active.set c.channel false } else s.chan
        env := if c = .c2 ∧ s.con.punchSelected = true
          then { s.env with punched := s.env.punched ++ punchFrames s.con.punchMode w }
          else { s.env with sent := s.env.sent ++ [.word24 c w] } }) ∧
  (∀ (s : State) (c : Channel) (x : Long),
    (s.chan.mode.get c.pair = .bits24 → s.input c x = s.inputStep c (x.extractLsb' 0 24)) ∧
    (s.chan.mode.get c.pair = .bits12 → s.input c x = s.inputStep c ((x.extractLsb' 0 12).zeroExtend 24)) ∧
    (s.chan.mode.get c.pair = .bits48 → ∀ w1 w2 : Word,
      (s.inst.word48 = .upperFirst ∧ w1 = x.extractLsb' 24 24 ∧ w2 = x.extractLsb' 0 24) ∨
        (s.inst.word48 = .lowerFirst ∧ w1 = x.extractLsb' 0 24 ∧ w2 = x.extractLsb' 24 24) →
      ∀ s1, s.inputStep c w1 = .next s1 →
        (s1.chan.active.get c = true → s.input c x = s1.inputStep c w2) ∧
        (s1.chan.active.get c = false → s.input c x = .refused .oddBuffer48))) ∧
  (∀ (s : State) (c : OutChannel) (w : Word),
    let odd := 2 * c.channel.number + 1
    let s1 := s.counted c.channel
    let punch := c = .c2 ∧ s.con.punchSelected = true
    s.Reads (addressPart (s.word odd)) w →
    (s.chan.mode.get c.channel.pair = .bits12 →
      (¬punch → s.output c = .next
        { s1 with env := { s.env with sent := s.env.sent ++ [.word12 c (w.getLsbD 23) (w.extractLsb' 0 12)] } }) ∧
      (punch → ∃ v : Word, v.extractLsb' 0 12 = w.extractLsb' 0 12 ∧ s.output c = .next
        { s1 with
          env := { s.env with punched := s.env.punched ++ punchFrames s.con.punchMode v }
          free := s.free + 1 })) ∧
    (s.chan.mode.get c.channel.pair = .bits48 →
      (s1.chan.active.get c.channel = false → s.output c = .refused .oddBuffer48) ∧
      (s1.chan.active.get c.channel = true → ∀ v, s1.Reads (addressPart (s1.word odd)) v →
        (¬punch → ∀ x : Long,
          (s.inst.word48 = .upperFirst ∧ x = w ++ v) ∨ (s.inst.word48 = .lowerFirst ∧ x = v ++ w) →
          s.output c = .next
            { s1.counted c.channel with env := { s.env with sent := s.env.sent ++ [.word48 c x] } }) ∧
        (punch → s.output c = .next
          { s1.counted c.channel with
            env := { s.env with
              punched := s.env.punched ++ punchFrames s.con.punchMode w ++ punchFrames s.con.punchMode v } })))) ∧
  (∀ (s : State) (c : OutChannel) (x : External) (w : Word), s.Reads (addressPart (s.word (2 * c.channel.number + 1))) w →
    (s.chan.mode.get c.channel.pair ≠ .bits12 ∨ w.getLsbD 23 = false → s.selectByWord c x = .next s) ∧
    (s.chan.mode.get c.channel.pair = .bits12 → w.getLsbD 23 = true → ∀ s1, s.output c = .next s1 →
      s.selectByWord c x = .next
        { s1 with
          chan := { s1.chan with user := s1.chan.user.set c.channel (some ⟨.external x, c.channel⟩) } })) ∧
  ∀ s : State,
    let left (rest : List Frame) : State := { s with env := { s.env with tape := rest } }
    (s.env.tape = [] → s.readerStep = .next s) ∧
    (s.con.readerMode = .character → ∀ c rest, s.env.tape = c :: rest →
      s.readerStep = (left rest).inputStep .c1 (c.zeroExtend 24)) ∧
    (s.con.readerMode = .assembly →
      (∀ c rest, s.env.tape = c :: rest → c.getLsbD 6 = false →
        s.readerStep = .next { left rest with con := { s.con with readerEot := true } }) ∧
      (∀ c rest, s.env.tape = c :: rest → c.getLsbD 6 = true → rest.length < 3 → s.readerStep = .next s) ∧
      ∀ c0 c1 c2 c3 rest (w : Word), s.env.tape = c0 :: c1 :: c2 :: c3 :: rest → c0.getLsbD 6 = true →
        w = c0.extractLsb' 0 6 ++ c1.extractLsb' 0 6 ++ c2.extractLsb' 0 6 ++ c3.extractLsb' 0 6 →
        (s.chan.mode.p12 ≠ .bits12 → s.readerStep = (left rest).inputStep .c1 w) ∧
        (s.chan.mode.p12 = .bits12 →
          s.readerStep = (left rest).inputStep .c1 ((w.extractLsb' 0 12).zeroExtend 24)))

/-- A word punched in assembly mode is four frames, the upper six bits first, the first alone with the level-7 hole,
and the reader's assembly mode makes the same word of them (R253, R254); in character mode it is one frame, bits 6 to
0. The single level-7 hole is the spec's inference (R254). The frame of character mode is R254's; a test vector prints
another (log entry 32). -/
def Obligations.PunchedTapeReadsBack : Prop :=
  ∀ w : Word, punchFrames .character w = [w.extractLsb' 0 7] ∧
    ∃ c0 c1 c2 c3, punchFrames .assembly w = [c0, c1, c2, c3] ∧
      c0.getLsbD 6 = true ∧ c1.getLsbD 6 = false ∧ c2.getLsbD 6 = false ∧ c3.getLsbD 6 = false ∧
      c0.extractLsb' 0 6 = w.extractLsb' 18 6 ∧ c3.extractLsb' 0 6 = w.extractLsb' 0 6 ∧
      assemble c0 c1 c2 c3 = w

/-! ### The machine between instructions -/

/-- A step at a quiet boundary runs the instruction that the word at P decodes to, with that word in U, and then counts
the cycle, ends the lockout where P was 00016 and the instruction completed, and stops if it was a single step.  START
in a stopped computer goes on with the word at P; STEP executes one instruction, the word in U where the operator has
set it, else the word at P; STEP in a running computer stops it at the boundary (R270, R291).  What the step adds to
`exec` rests on D16, D18 and D39 (log entries 13, 14, 18, 20) and on the model's own counter (log entry 6). -/
def Obligations.StepRunsTheDecodedInstruction : Prop :=
  (∀ (s : State) (w : Word) (i : Instr), s.Fetches → s.Quiet → s.Reads s.p w → decode w = i → i.wellFormed = true →
    step s = andThen (exec i (s.fetched w)) (fun t => .next (t.finish s.p))) ∧
  (∀ (t : State) (p0 : Addr),
    let stopped : Panel := { t.panel with run := .stopped, stepOne := false, uSet := false }
    (t.panel.stepOne = false → t.panel.run = .running →
      t.finish p0 = { t with intr := t.intr.afterCompleted p0, free := t.free + 1 }) ∧
    (t.panel.stepOne = false → t.panel.run = .stopped → t.finish p0 = { t with free := t.free + 1 }) ∧
    (t.panel.stepOne = true → t.panel.run = .running →
      t.finish p0 = { t with intr := t.intr.afterCompleted p0, panel := stopped, free := t.free + 1 }) ∧
    (t.panel.stepOne = true → t.panel.run = .stopped →
      t.finish p0 = { t with panel := stopped, free := t.free + 1 })) ∧
  (∀ (s : State) (w : Word), s.panel.run = .stopped → s.panel.slsPending = false → s.interruptDue = false →
    s.nextBoundary.after = [] →
    (s.nextBoundary.events = [.start] → s.Reads s.p w →
      step s = andThen
        (exec (decode w) { s.fetched w with panel := { s.panel with run := .running, stepOne := false, uSet := false } })
        (fun t => .next (t.finish s.p))) ∧
    (s.nextBoundary.events = [.step] → (s.panel.uSet = true ∧ w = s.u) ∨ (s.panel.uSet = false ∧ s.Reads s.p w) →
      step s = andThen
        (exec (decode w) { s.fetched w with panel := { s.panel with run := .running, stepOne := true, uSet := false } })
        (fun t => .next (t.finish s.p)))) ∧
  ∀ s : State, s.panel.run = .running → s.nextBoundary.events = [.step] → s.nextBoundary.after = [] →
    step s = .next
      { s with
        panel := { s.panel with run := .stopped, stepOne := false, uSet := false }
        env := { s.env with schedule := s.env.schedule.drop 1 } }

/-- A stopped computer executes nothing and takes no interrupt (R270): at a boundary where nothing happens it stays as
it is, and at one where buffer requests come, of any kind and in any number, it serves them and does no more. A
request is served where its channel is active, its equipment is selected there, or replies there in 160 mode (and the
reader can move, R253; the punch has its motor on and its SELECT switch up, R316), and no other equipment is using the
channel; it is refused where one is, and changes nothing where the channel is inactive or the equipment is not
selected or not able: no word arrives or is taken then (R241, R242, R259), but for a select code that is sent as a
word in 160 mode (R256). Serving leaves every register, indicator, interrupt bit and switch and the modes as they
were, and the use of the channels but for that select code. Buffering while stopped is the spec's inference (R270);
the boundary is an entry of the schedule (log entry 13), what becomes of a request that cannot be served log entry 29,
what is using a channel log entries 35 and 36, and that the supply of paper stops no transfer log entry 38. -/
def Obligations.StoppedComputerServesBuffersOnly : Prop :=
  (∀ s : State, s.panel.run = .stopped → s.nextBoundary.after = [] →
    (s.nextBoundary.events = [] → step s = .next { s with env := { s.env with schedule := s.env.schedule.drop 1 } }) ∧
    ∀ (c : InChannel) (e : External) (x : Long) (n : Nat), s.nextBoundary.events = [.transfer (.offer c e x)] →
      s.chan.mode.get c.channel.pair = .bits24 → s.chan.active.get c.channel = true →
      ¬s.UsedBeside c.channel (.external e) →
      s.SelectedOn c.channel (.external e) ∨ s.RepliesOn c.channel e →
      s.Leads (addressPart (s.word (2 * c.channel.number + 1))) n →
      ∃ t, step s = .next t ∧ s.popBoundary.inputStep c.channel (x.extractLsb' 0 24) = .next t) ∧
  (∀ (s : State) (ts : List Transfer), s.panel.run = .stopped → s.nextBoundary.events = ts.map .transfer →
    step s = { s with env := { s.env with schedule := s.env.schedule.drop 1 } }.serveAll (ts ++ s.nextBoundary.after)) ∧
  ∀ s : State,
    s.serveAll [] = .next s ∧
    (∀ x ts, s.serveAll (x :: ts) = andThen (s.serve x) fun s1 => s1.serveAll ts) ∧
    (∀ (x : Transfer) (c : Channel) (e : Equipment) (able selected : Prop) (r r0 : Result),
      (∃ i u d, x = .offer i u d ∧ c = i.channel ∧ e = .external u ∧ able = (s.chan.active.get c = true) ∧
        selected = (s.SelectedOn c e ∨ s.RepliesOn c u) ∧ r = s.input c d ∧ r0 = .next s) ∨
      (∃ o u, x = .request o u ∧ c = o.channel ∧ e = .external u ∧ able = (s.chan.active.get c = true) ∧
        selected = s.SelectedOn c e ∧ r = s.output o ∧ r0 = s.selectByWord o u) ∨
      (x = .reader ∧ c = .c1 ∧ e = .reader ∧ able = s.ReaderMoves ∧ selected = True ∧ r = s.readerStep ∧
        r0 = .next s) ∨
      (x = .punch ∧ c = .c2 ∧ e = .punch ∧ able = s.PunchReady ∧ selected = True ∧ r = s.output .c2 ∧ r0 = .next s) →
      (¬able → s.serve x = .next s) ∧
      (able → ¬s.UsedBeside c e → ¬selected → s.serve x = r0) ∧
      (able → ¬s.UsedBeside c e → selected → s.serve x = r) ∧
      (able → s.UsedBeside c e → s.serve x = .refused .secondEquipment)) ∧
    ∀ ts t, s.serveAll ts = .next t →
      t = { s with
        mem := t.mem
        chan := { s.chan with active := t.chan.active, user := t.chan.user }
        con := { s.con with readerEot := t.con.readerEot }
        env := { s.env with sent := t.env.sent, tape := t.env.tape, punched := t.env.punched }
        free := t.free } ∧
      ∀ c, t.chan.user.get c = s.chan.user.get c ∨
        (c.isInput = false ∧ s.chan.mode.get c.pair = .bits12 ∧ ∃ e, t.chan.user.get c = some ⟨.external e, c⟩)

/-- The interrupt request is the OR of the selected and present conditions (R280); a pulse of the clock counts only
while the clock is selected, and, unless pulses are latched, only where the interrupt could be taken at that moment
(R289).  An interrupt that is due at a boundary, and is seen there or was put off at the last one, is a return jump to
00016 that stores P itself, sets the lockout and goes on with the instruction at 00017 (R281, R282); so too where START
makes a stopped computer run (R270), and before a single step, where a word the operator has set in U is executed in
place of that at 00017 (R291).  The schedule is the spec's decision D16 (log entries 13 and 14), the clock's part D22,
the reader's term D36, the step D39; `uSet` and `stepOne` are the model's own bits (log entry 18). -/
def Obligations.InterruptIsEntered : Prop :=
  (∀ s : State,
    (s.interruptRequest = true ↔
      (∃ c, s.intr.selInactive.get c = true ∧ s.chan.active.get c = false) ∨
      (s.intr.selArith = true ∧ (s.ind.divide = true ∨ s.ind.shift = true ∨ s.ind.overflow = true)) ∨
      s.intr.rtcRequest = true ∨
      (s.con.readerSelected = true ∧ s.con.selReaderEotInt = true ∧ s.con.readerEot = true) ∨
      ∃ c, s.env.interrupt.get c = true) ∧
    (let takes := s.inst.rtcPulseLatched = true ∨ (s.panel.run = .running ∧ s.intr.lockout = false)
     (s.intr.selRtc = true → takes →
        s.apply .clockPulse = .next { s with intr := { s.intr with rtcRequest := true } }) ∧
     (s.intr.selRtc = false ∨ ¬takes → s.apply .clockPulse = .next s))) ∧
  ∀ s : State, s.nextBoundary.after = [] → s.interruptRequest = true →
    s.intr.lockout = false → s.nextBoundary.late = false ∨ s.intr.deferred = true →
    ∃ e, s.StoredAt e 0o16 (withAddressPart (s.word 0o16) s.p) ∧
      e = { s with
        mem := e.mem
        p := 0o17
        intr := { s.intr with lockout := true, rtcRequest := false, deferred := false }
        env := { s.env with schedule := s.env.schedule.drop 1 } } ∧
      (s.Fetches → s.nextBoundary.events = [] → ∀ w, e.Reads 0o17 w →
        step s = andThen (exec (decode w) { e with u := w, panel := { s.panel with uSet := false } })
          (fun t => .next (t.finish 0o17))) ∧
      (s.panel.run = .stopped → s.panel.slsPending = false → s.nextBoundary.events = [.start] →
        ∀ w, e.Reads 0o17 w →
        step s = andThen
          (exec (decode w)
            { e with u := w, panel := { s.panel with run := .running, stepOne := false, uSet := false } })
          (fun t => .next (t.finish 0o17))) ∧
      (s.panel.run = .stopped → s.panel.slsPending = false → s.nextBoundary.events = [.step] →
        ∀ w, (s.panel.uSet = true ∧ w = s.u) ∨ (s.panel.uSet = false ∧ e.Reads 0o17 w) →
        step s = andThen
          (exec (decode w)
            { e with u := w, panel := { s.panel with run := .running, stepOne := true, uSet := false } })
          (fun t => .next (t.finish 0o17)))

/-- A late scanner puts the interrupt off by one instruction, not two: the instruction at P is executed, and the next
boundary may not put it off again (R281).  So at any boundary, whatever happens there: where the program goes on after
it, the bit `deferred` says whether the condition holds then, be it that a buffer request served last has made it hold;
and where it held at the boundary before it holds no longer, unless the operator's internal master clear has wiped out
that it did.  Where only buffer requests are due it holds no longer because it has gone, or because it is taken.  The
bound on the delay is the spec's decision D16 (log entry 14). The boundary is an entry of the schedule (log entry 13); `uSet`
is the model's own bit (log entry 18). -/
def Obligations.InterruptIsPutOffOnce : Prop :=
  (∀ (s t : State) (x : Boundary), s.passBoundary x = .next t → t.panel.run = .running → t.panel.slsPending = false →
    t.intr.deferred = t.interruptDue ∧
    (s.intr.deferred = true → .clearInternal ∉ x.events → t.interruptDue = false) ∧
    ∀ ts : List Transfer, x.events = ts.map .transfer → s.intr.deferred = true →
      (t.p = s.p ∧ t.intr.lockout = s.intr.lockout) ∨ (t.p = 0o17 ∧ t.intr.lockout = true)) ∧
  ∀ (s : State) (w : Word), s.Fetches → s.nextBoundary.events = [] → s.nextBoundary.after = [] →
    s.interruptDue = true → s.nextBoundary.late = true → s.intr.deferred = false → s.Reads s.p w →
    step s = andThen (exec (decode w)
      { s with
        u := w
        intr := { s.intr with deferred := true }
        panel := { s.panel with uSet := false }
        env := { s.env with schedule := s.env.schedule.drop 1 } })
      (fun t => .next (t.finish s.p)) ∧
    ∀ late, { s with intr := { s.intr with deferred := true } }.recognize late =
      { s with intr := { s.intr with deferred := true } }.interruptEntry

/-- The lockout ends when the instruction executed with P = 00016 completes, whatever it is, and no other instruction
changes it (R283). What ends the lockout is the spec's decision D18 (log entry 20). -/
def Obligations.LockoutEndsAtWord16 : Prop :=
  ∀ (s t : State) (w : Word), s.Fetches → s.Quiet → s.Reads s.p w → step s = .next t →
    (t.panel.run = .running → s.p = 0o16 → t.intr.lockout = false) ∧
    (s.p ≠ 0o16 → t.intr.lockout = s.intr.lockout)

/-- The internal master clear (R310), the external master clear (R311), and the values that R42 gives after both: in
`State.reset` and after the two clears of any state. The cleared lockout and selections are the spec's decision D25,
the punch's its decision D37. The model's choices: that the external clear keeps the modes of the pairs 3-4 and 5-6,
which R34, R42 and D23 leave unspecified (log entry 8, unsafe); that of the environment it drops the interrupt lines and
keeps the schedule and the rest (log entries 13 and 28), where R311 sends the equipment to its cleared state; and the
form in which State holds which equipment uses a channel (log entry 36). -/
def Obligations.MasterClearsAndReset : Prop :=
  (∀ s : State,
    (let t := s.internalMasterClear
     t.a = 0 ∧ t.q = 0 ∧ t.b = ⟨0, 0, 0, 0, 0, 0⟩ ∧ t.p = 0 ∧ t.u = 0 ∧
     t.ind = ⟨false, false, false, false, false⟩ ∧ t.intr.lockout = false ∧
     t.intr.selInactive = ⟨false, false, false, false, false, false⟩ ∧ t.intr.selArith = false ∧
     t.intr.selRtc = false ∧ t.intr.rtcRequest = false ∧ t.panel.slsPending = false ∧ t.panel.run = .stopped ∧
     t.con = { s.con with readerEot := true } ∧ t.mem = s.mem ∧ t.chan = s.chan ∧ t.env = s.env ∧ t.inst = s.inst) ∧
    (let t := s.externalMasterClear
     t.chan.active = ⟨false, false, false, false, false, false⟩ ∧ t.chan.mode = { s.chan.mode with p12 := .bits24 } ∧
     t.chan.user = ⟨some ⟨.reader, .c1⟩, none, none, none, none, none⟩ ∧
     t.con.readerSelected = true ∧ t.con.selReaderEotInt = false ∧ t.con.punchSelected = false ∧
     t.con.readerEot = s.con.readerEot ∧ t.con.readerMode = s.con.readerMode ∧
     t.con.readerMotor = s.con.readerMotor ∧ t.con.punchOutOfTape = s.con.punchOutOfTape ∧
     t.con.punchEnabled = s.con.punchEnabled ∧
     t.env = { s.env with interrupt := ⟨false, false, false, false, false, false⟩ } ∧
     t.a = s.a ∧ t.q = s.q ∧ t.b = s.b ∧ t.p = s.p ∧ t.u = s.u ∧ t.mem = s.mem ∧ t.ind = s.ind ∧ t.intr = s.intr ∧
     t.panel = s.panel ∧ t.inst = s.inst)) ∧
  ∀ s t : State, t = State.reset ∨ t = s.internalMasterClear.externalMasterClear →
    t.a = 0 ∧ t.q = 0 ∧ t.b = ⟨0, 0, 0, 0, 0, 0⟩ ∧ t.p = 0 ∧ t.u = 0 ∧
    t.ind = ⟨false, false, false, false, false⟩ ∧ t.intr.lockout = false ∧
    t.intr.selInactive = ⟨false, false, false, false, false, false⟩ ∧ t.intr.selArith = false ∧
    t.intr.selRtc = false ∧ t.intr.rtcRequest = false ∧ t.panel.slsPending = false ∧
    t.chan.active = ⟨false, false, false, false, false, false⟩ ∧ t.chan.mode.p12 = .bits24 ∧
    t.chan.user = ⟨some ⟨.reader, .c1⟩, none, none, none, none, none⟩ ∧
    t.con.readerSelected = true ∧ t.con.readerEot = true ∧ t.con.selReaderEotInt = false ∧
    t.con.punchSelected = false ∧ t.panel.run = .stopped

/-! ### The whole machine -/

/-- The invariant holds after reset. -/
def Obligations.InvariantAtReset : Prop := State.reset.Inv

/-- Every step keeps the invariant, whatever the operator and the equipment do at its boundary. The clauses on `uSet`,
`stepOne`, `readerArmed` and `user` are about the model's own fields (log entries 18, 21 and 36). -/
def Obligations.StepKeepsInvariant : Prop :=
  ∀ s t : State, s.Inv → step s = .next t → t.Inv

/-- The three fault indicators are sticky: no instruction clears one, but for EXF select 00070, reached through XEC or
not (R276). In the premise U holds the instruction, as it does in every step. The clause for XEC rests on the spec's
decision D17. -/
def Obligations.FaultIndicatorsAreSticky : Prop :=
  ∀ (i : Instr) (s t : State), s.u = encode i → exec i s = .next t → t.u ≠ encode (.exfSelect 0o00070) →
    (s.ind.divide = true → t.ind.divide = true) ∧ (s.ind.shift = true → t.ind.shift = true) ∧
    (s.ind.overflow = true → t.ind.overflow = true)

/-- EXF is the only instruction that touches the control state of R33 to R35, and no instruction touches the lockout,
the keys or the installation. The buffer requests that a search serves between its words are the buffer agent's: none
is due in the premise. The premise on the searches rests on the spec's decision D4. -/
def Obligations.OnlyExternalFunctionsTouchControlState : Prop :=
  ∀ (i : Instr) (s t : State), s.u = encode i → s.env.searchRequests = [] → exec i s = .next t →
    t.intr.lockout = s.intr.lockout ∧ t.inst = s.inst ∧ t.panel.jumpKey = s.panel.jumpKey ∧
    t.panel.stopKey = s.panel.stopKey ∧ t.env.schedule = s.env.schedule ∧
    (opField t.u ≠ 0o74 → t.intr = s.intr ∧ t.chan = s.chan ∧ t.con = s.con ∧ t.env = s.env) ∧
    (opField t.u = 0o74 → t.a = s.a ∧ t.q = s.q ∧ t.b = s.b)
end

