-- ==== Sys2Proof/Laws/Memory.lean ====
section
/-!
SUPPORT. Storage as a list: reading after writing, and the canonical form that every write keeps.
-/

namespace Sys2Proof.Machine

@[simp] theorem Memory.read_nil (n : Nat) : Memory.read [] n = Memory.unlisted := rfl

theorem Memory.read_cons (k : Nat) (v : Word) (m : Memory) (n : Nat) :
    Memory.read ((k, v) :: m) n = if n = k then v else Memory.read m n := rfl

/-! ### Reading after writing -/

theorem Memory.read_erase (m : Memory) (n j : Nat) :
    Memory.read (Memory.erase m n) j = if j = n then Memory.unlisted else Memory.read m j := by
  induction m with
  | nil => simp [Memory.erase]
  | cons x rest ih =>
    obtain ⟨k, w⟩ := x
    simp only [Memory.erase]
    by_cases hk : n = k
    · subst hk
      rw [if_pos rfl, ih, Memory.read_cons]
      by_cases hj : j = n <;> simp [hj]
    · rw [if_neg hk, Memory.read_cons, Memory.read_cons, ih]
      by_cases hj : j = n
      · subst hj; simp [hk]
      · simp [hj]

theorem Memory.read_insert (m : Memory) (n : Nat) (v : Word) (j : Nat) :
    Memory.read (Memory.insert m n v) j = if j = n then v else Memory.read m j := by
  induction m with
  | nil => simp [Memory.insert, Memory.read_cons]
  | cons x rest ih =>
    obtain ⟨k, w⟩ := x
    simp only [Memory.insert]
    split
    · simp [Memory.read_cons]
    · split
      · rename_i h1 h2
        subst h2
        simp only [Memory.read_cons]
        by_cases hj : j = n <;> simp [hj]
      · rename_i h1 h2
        rw [Memory.read_cons, ih, Memory.read_cons]
        by_cases hj : j = n
        · subst hj; simp [h2]
        · simp [hj]

/-- A location reads as the word written there, and every other one as before. -/
theorem Memory.read_write (m : Memory) (n : Nat) (v : Word) (j : Nat) :
    (m.write n v).read j = if j = n then v else m.read j := by
  unfold Memory.write
  split
  · rename_i h; rw [Memory.read_erase, h]
  · exact Memory.read_insert m n v j

@[simp] theorem Memory.read_write_same (m : Memory) (n : Nat) (v : Word) : (m.write n v).read n = v := by
  simp [Memory.read_write]

theorem Memory.read_write_other (m : Memory) (n : Nat) (v : Word) (j : Nat) (h : j ≠ n) :
    (m.write n v).read j = m.read j := by
  simp [Memory.read_write, h]

/-! ### The canonical form -/

theorem Memory.risingFrom_cons (lo k : Nat) (v : Word) (m : Memory) :
    Memory.risingFrom lo ((k, v) :: m) = true ↔
      lo ≤ k ∧ k < 32768 ∧ v ≠ Memory.unlisted ∧ Memory.risingFrom (k + 1) m = true := by
  simp [Memory.risingFrom, and_assoc]

theorem Memory.risingFrom_mono (m : Memory) (lo lo' : Nat) (h : lo' ≤ lo) (hm : Memory.risingFrom lo m = true) :
    Memory.risingFrom lo' m = true := by
  cases m with
  | nil => rfl
  | cons x rest =>
    obtain ⟨k, v⟩ := x
    rw [Memory.risingFrom_cons] at hm ⊢
    exact ⟨h.trans hm.1, hm.2⟩

theorem Memory.erase_rising (m : Memory) (n lo : Nat) (hm : Memory.risingFrom lo m = true) :
    Memory.risingFrom lo (Memory.erase m n) = true := by
  induction m generalizing lo with
  | nil => rfl
  | cons x rest ih =>
    obtain ⟨k, w⟩ := x
    rw [Memory.risingFrom_cons] at hm
    simp only [Memory.erase]
    split
    · exact Memory.risingFrom_mono _ (k + 1) lo (by omega) (ih _ hm.2.2.2)
    · rw [Memory.risingFrom_cons]
      exact ⟨hm.1, hm.2.1, hm.2.2.1, ih _ hm.2.2.2⟩

theorem Memory.insert_rising (m : Memory) (n lo : Nat) (v : Word) (hlo : lo ≤ n) (hn : n < 32768)
    (hv : v ≠ Memory.unlisted) (hm : Memory.risingFrom lo m = true) :
    Memory.risingFrom lo (Memory.insert m n v) = true := by
  induction m generalizing lo with
  | nil => simp only [Memory.insert, Memory.risingFrom_cons]; exact ⟨hlo, hn, hv, rfl⟩
  | cons x rest ih =>
    obtain ⟨k, w⟩ := x
    rw [Memory.risingFrom_cons] at hm
    simp only [Memory.insert]
    split
    · rw [Memory.risingFrom_cons, Memory.risingFrom_cons]
      exact ⟨hlo, hn, hv, by omega, hm.2.1, hm.2.2⟩
    · split
      · rename_i h1 h2
        subst h2
        rw [Memory.risingFrom_cons]
        exact ⟨hlo, hn, hv, hm.2.2.2⟩
      · rw [Memory.risingFrom_cons]
        exact ⟨hm.1, hm.2.1, hm.2.2.1, ih _ (by omega) hm.2.2.2⟩

/-- Every write at an address of the machine keeps the canonical form. -/
theorem Memory.write_wf (m : Memory) (n : Nat) (v : Word) (hn : n < 32768) (hm : m.wf = true) :
    (m.write n v).wf = true := by
  unfold Memory.write Memory.wf
  split
  · exact Memory.erase_rising m n 0 hm
  · rename_i h; exact Memory.insert_rising m n 0 v (Nat.zero_le n) hn h hm

/-- In the canonical form, a location below the first listed one reads as the unlisted word. -/
theorem Memory.read_below (m : Memory) (lo n : Nat) (hm : Memory.risingFrom lo m = true) (h : n < lo) :
    m.read n = Memory.unlisted := by
  induction m generalizing lo with
  | nil => rfl
  | cons x rest ih =>
    obtain ⟨k, w⟩ := x
    rw [Memory.risingFrom_cons] at hm
    rw [Memory.read_cons, if_neg (by omega)]
    exact ih (k + 1) hm.2.2.2 (by omega)

end Sys2Proof.Machine
end

