-- ==== Sys2Proof/Laws/State.lean ====
section
/-!
SUPPORT. What each update of the state leaves of each field: one lemma for each field of each update, so that no proof
unfolds a record update.
-/

namespace Sys2Proof.Machine

variable (s : State)

/-! ### The plain updates -/

@[simp] theorem State.setA_a (v : Word) : (s.setA v).a = v := rfl
@[simp] theorem State.setA_q (v : Word) : (s.setA v).q = s.q := rfl
@[simp] theorem State.setA_b (v : Word) : (s.setA v).b = s.b := rfl
@[simp] theorem State.setA_p (v : Word) : (s.setA v).p = s.p := rfl
@[simp] theorem State.setA_u (v : Word) : (s.setA v).u = s.u := rfl
@[simp] theorem State.setA_mem (v : Word) : (s.setA v).mem = s.mem := rfl
@[simp] theorem State.setA_ind (v : Word) : (s.setA v).ind = s.ind := rfl
@[simp] theorem State.setA_intr (v : Word) : (s.setA v).intr = s.intr := rfl
@[simp] theorem State.setA_chan (v : Word) : (s.setA v).chan = s.chan := rfl
@[simp] theorem State.setA_con (v : Word) : (s.setA v).con = s.con := rfl
@[simp] theorem State.setA_panel (v : Word) : (s.setA v).panel = s.panel := rfl
@[simp] theorem State.setA_env (v : Word) : (s.setA v).env = s.env := rfl
@[simp] theorem State.setA_inst (v : Word) : (s.setA v).inst = s.inst := rfl
@[simp] theorem State.setA_free (v : Word) : (s.setA v).free = s.free := rfl

@[simp] theorem State.setQ_a (v : Word) : (s.setQ v).a = s.a := rfl
@[simp] theorem State.setQ_q (v : Word) : (s.setQ v).q = v := rfl
@[simp] theorem State.setQ_b (v : Word) : (s.setQ v).b = s.b := rfl
@[simp] theorem State.setQ_p (v : Word) : (s.setQ v).p = s.p := rfl
@[simp] theorem State.setQ_u (v : Word) : (s.setQ v).u = s.u := rfl
@[simp] theorem State.setQ_mem (v : Word) : (s.setQ v).mem = s.mem := rfl
@[simp] theorem State.setQ_ind (v : Word) : (s.setQ v).ind = s.ind := rfl
@[simp] theorem State.setQ_intr (v : Word) : (s.setQ v).intr = s.intr := rfl
@[simp] theorem State.setQ_chan (v : Word) : (s.setQ v).chan = s.chan := rfl
@[simp] theorem State.setQ_con (v : Word) : (s.setQ v).con = s.con := rfl
@[simp] theorem State.setQ_panel (v : Word) : (s.setQ v).panel = s.panel := rfl
@[simp] theorem State.setQ_env (v : Word) : (s.setQ v).env = s.env := rfl
@[simp] theorem State.setQ_inst (v : Word) : (s.setQ v).inst = s.inst := rfl
@[simp] theorem State.setQ_free (v : Word) : (s.setQ v).free = s.free := rfl

@[simp] theorem State.setP_a (v : Addr) : (s.setP v).a = s.a := rfl
@[simp] theorem State.setP_q (v : Addr) : (s.setP v).q = s.q := rfl
@[simp] theorem State.setP_b (v : Addr) : (s.setP v).b = s.b := rfl
@[simp] theorem State.setP_p (v : Addr) : (s.setP v).p = v := rfl
@[simp] theorem State.setP_u (v : Addr) : (s.setP v).u = s.u := rfl
@[simp] theorem State.setP_mem (v : Addr) : (s.setP v).mem = s.mem := rfl
@[simp] theorem State.setP_ind (v : Addr) : (s.setP v).ind = s.ind := rfl
@[simp] theorem State.setP_intr (v : Addr) : (s.setP v).intr = s.intr := rfl
@[simp] theorem State.setP_chan (v : Addr) : (s.setP v).chan = s.chan := rfl
@[simp] theorem State.setP_con (v : Addr) : (s.setP v).con = s.con := rfl
@[simp] theorem State.setP_panel (v : Addr) : (s.setP v).panel = s.panel := rfl
@[simp] theorem State.setP_env (v : Addr) : (s.setP v).env = s.env := rfl
@[simp] theorem State.setP_inst (v : Addr) : (s.setP v).inst = s.inst := rfl
@[simp] theorem State.setP_free (v : Addr) : (s.setP v).free = s.free := rfl

@[simp] theorem State.setU_a (v : Word) : (s.setU v).a = s.a := rfl
@[simp] theorem State.setU_q (v : Word) : (s.setU v).q = s.q := rfl
@[simp] theorem State.setU_b (v : Word) : (s.setU v).b = s.b := rfl
@[simp] theorem State.setU_p (v : Word) : (s.setU v).p = s.p := rfl
@[simp] theorem State.setU_u (v : Word) : (s.setU v).u = v := rfl
@[simp] theorem State.setU_mem (v : Word) : (s.setU v).mem = s.mem := rfl
@[simp] theorem State.setU_ind (v : Word) : (s.setU v).ind = s.ind := rfl
@[simp] theorem State.setU_intr (v : Word) : (s.setU v).intr = s.intr := rfl
@[simp] theorem State.setU_chan (v : Word) : (s.setU v).chan = s.chan := rfl
@[simp] theorem State.setU_con (v : Word) : (s.setU v).con = s.con := rfl
@[simp] theorem State.setU_panel (v : Word) : (s.setU v).panel = s.panel := rfl
@[simp] theorem State.setU_env (v : Word) : (s.setU v).env = s.env := rfl
@[simp] theorem State.setU_inst (v : Word) : (s.setU v).inst = s.inst := rfl
@[simp] theorem State.setU_free (v : Word) : (s.setU v).free = s.free := rfl

@[simp] theorem State.setInd_a (v : Indicators) : (s.setInd v).a = s.a := rfl
@[simp] theorem State.setInd_q (v : Indicators) : (s.setInd v).q = s.q := rfl
@[simp] theorem State.setInd_b (v : Indicators) : (s.setInd v).b = s.b := rfl
@[simp] theorem State.setInd_p (v : Indicators) : (s.setInd v).p = s.p := rfl
@[simp] theorem State.setInd_u (v : Indicators) : (s.setInd v).u = s.u := rfl
@[simp] theorem State.setInd_mem (v : Indicators) : (s.setInd v).mem = s.mem := rfl
@[simp] theorem State.setInd_ind (v : Indicators) : (s.setInd v).ind = v := rfl
@[simp] theorem State.setInd_intr (v : Indicators) : (s.setInd v).intr = s.intr := rfl
@[simp] theorem State.setInd_chan (v : Indicators) : (s.setInd v).chan = s.chan := rfl
@[simp] theorem State.setInd_con (v : Indicators) : (s.setInd v).con = s.con := rfl
@[simp] theorem State.setInd_panel (v : Indicators) : (s.setInd v).panel = s.panel := rfl
@[simp] theorem State.setInd_env (v : Indicators) : (s.setInd v).env = s.env := rfl
@[simp] theorem State.setInd_inst (v : Indicators) : (s.setInd v).inst = s.inst := rfl
@[simp] theorem State.setInd_free (v : Indicators) : (s.setInd v).free = s.free := rfl

@[simp] theorem State.setIntr_a (v : InterruptControl) : (s.setIntr v).a = s.a := rfl
@[simp] theorem State.setIntr_q (v : InterruptControl) : (s.setIntr v).q = s.q := rfl
@[simp] theorem State.setIntr_b (v : InterruptControl) : (s.setIntr v).b = s.b := rfl
@[simp] theorem State.setIntr_p (v : InterruptControl) : (s.setIntr v).p = s.p := rfl
@[simp] theorem State.setIntr_u (v : InterruptControl) : (s.setIntr v).u = s.u := rfl
@[simp] theorem State.setIntr_mem (v : InterruptControl) : (s.setIntr v).mem = s.mem := rfl
@[simp] theorem State.setIntr_ind (v : InterruptControl) : (s.setIntr v).ind = s.ind := rfl
@[simp] theorem State.setIntr_intr (v : InterruptControl) : (s.setIntr v).intr = v := rfl
@[simp] theorem State.setIntr_chan (v : InterruptControl) : (s.setIntr v).chan = s.chan := rfl
@[simp] theorem State.setIntr_con (v : InterruptControl) : (s.setIntr v).con = s.con := rfl
@[simp] theorem State.setIntr_panel (v : InterruptControl) : (s.setIntr v).panel = s.panel := rfl
@[simp] theorem State.setIntr_env (v : InterruptControl) : (s.setIntr v).env = s.env := rfl
@[simp] theorem State.setIntr_inst (v : InterruptControl) : (s.setIntr v).inst = s.inst := rfl
@[simp] theorem State.setIntr_free (v : InterruptControl) : (s.setIntr v).free = s.free := rfl

@[simp] theorem State.setChan_a (v : ChannelControl) : (s.setChan v).a = s.a := rfl
@[simp] theorem State.setChan_q (v : ChannelControl) : (s.setChan v).q = s.q := rfl
@[simp] theorem State.setChan_b (v : ChannelControl) : (s.setChan v).b = s.b := rfl
@[simp] theorem State.setChan_p (v : ChannelControl) : (s.setChan v).p = s.p := rfl
@[simp] theorem State.setChan_u (v : ChannelControl) : (s.setChan v).u = s.u := rfl
@[simp] theorem State.setChan_mem (v : ChannelControl) : (s.setChan v).mem = s.mem := rfl
@[simp] theorem State.setChan_ind (v : ChannelControl) : (s.setChan v).ind = s.ind := rfl
@[simp] theorem State.setChan_intr (v : ChannelControl) : (s.setChan v).intr = s.intr := rfl
@[simp] theorem State.setChan_chan (v : ChannelControl) : (s.setChan v).chan = v := rfl
@[simp] theorem State.setChan_con (v : ChannelControl) : (s.setChan v).con = s.con := rfl
@[simp] theorem State.setChan_panel (v : ChannelControl) : (s.setChan v).panel = s.panel := rfl
@[simp] theorem State.setChan_env (v : ChannelControl) : (s.setChan v).env = s.env := rfl
@[simp] theorem State.setChan_inst (v : ChannelControl) : (s.setChan v).inst = s.inst := rfl
@[simp] theorem State.setChan_free (v : ChannelControl) : (s.setChan v).free = s.free := rfl

@[simp] theorem State.setCon_a (v : Console) : (s.setCon v).a = s.a := rfl
@[simp] theorem State.setCon_q (v : Console) : (s.setCon v).q = s.q := rfl
@[simp] theorem State.setCon_b (v : Console) : (s.setCon v).b = s.b := rfl
@[simp] theorem State.setCon_p (v : Console) : (s.setCon v).p = s.p := rfl
@[simp] theorem State.setCon_u (v : Console) : (s.setCon v).u = s.u := rfl
@[simp] theorem State.setCon_mem (v : Console) : (s.setCon v).mem = s.mem := rfl
@[simp] theorem State.setCon_ind (v : Console) : (s.setCon v).ind = s.ind := rfl
@[simp] theorem State.setCon_intr (v : Console) : (s.setCon v).intr = s.intr := rfl
@[simp] theorem State.setCon_chan (v : Console) : (s.setCon v).chan = s.chan := rfl
@[simp] theorem State.setCon_con (v : Console) : (s.setCon v).con = v := rfl
@[simp] theorem State.setCon_panel (v : Console) : (s.setCon v).panel = s.panel := rfl
@[simp] theorem State.setCon_env (v : Console) : (s.setCon v).env = s.env := rfl
@[simp] theorem State.setCon_inst (v : Console) : (s.setCon v).inst = s.inst := rfl
@[simp] theorem State.setCon_free (v : Console) : (s.setCon v).free = s.free := rfl

@[simp] theorem State.setPanel_a (v : Panel) : (s.setPanel v).a = s.a := rfl
@[simp] theorem State.setPanel_q (v : Panel) : (s.setPanel v).q = s.q := rfl
@[simp] theorem State.setPanel_b (v : Panel) : (s.setPanel v).b = s.b := rfl
@[simp] theorem State.setPanel_p (v : Panel) : (s.setPanel v).p = s.p := rfl
@[simp] theorem State.setPanel_u (v : Panel) : (s.setPanel v).u = s.u := rfl
@[simp] theorem State.setPanel_mem (v : Panel) : (s.setPanel v).mem = s.mem := rfl
@[simp] theorem State.setPanel_ind (v : Panel) : (s.setPanel v).ind = s.ind := rfl
@[simp] theorem State.setPanel_intr (v : Panel) : (s.setPanel v).intr = s.intr := rfl
@[simp] theorem State.setPanel_chan (v : Panel) : (s.setPanel v).chan = s.chan := rfl
@[simp] theorem State.setPanel_con (v : Panel) : (s.setPanel v).con = s.con := rfl
@[simp] theorem State.setPanel_panel (v : Panel) : (s.setPanel v).panel = v := rfl
@[simp] theorem State.setPanel_env (v : Panel) : (s.setPanel v).env = s.env := rfl
@[simp] theorem State.setPanel_inst (v : Panel) : (s.setPanel v).inst = s.inst := rfl
@[simp] theorem State.setPanel_free (v : Panel) : (s.setPanel v).free = s.free := rfl

@[simp] theorem State.setEnv_a (v : Environment) : (s.setEnv v).a = s.a := rfl
@[simp] theorem State.setEnv_q (v : Environment) : (s.setEnv v).q = s.q := rfl
@[simp] theorem State.setEnv_b (v : Environment) : (s.setEnv v).b = s.b := rfl
@[simp] theorem State.setEnv_p (v : Environment) : (s.setEnv v).p = s.p := rfl
@[simp] theorem State.setEnv_u (v : Environment) : (s.setEnv v).u = s.u := rfl
@[simp] theorem State.setEnv_mem (v : Environment) : (s.setEnv v).mem = s.mem := rfl
@[simp] theorem State.setEnv_ind (v : Environment) : (s.setEnv v).ind = s.ind := rfl
@[simp] theorem State.setEnv_intr (v : Environment) : (s.setEnv v).intr = s.intr := rfl
@[simp] theorem State.setEnv_chan (v : Environment) : (s.setEnv v).chan = s.chan := rfl
@[simp] theorem State.setEnv_con (v : Environment) : (s.setEnv v).con = s.con := rfl
@[simp] theorem State.setEnv_panel (v : Environment) : (s.setEnv v).panel = s.panel := rfl
@[simp] theorem State.setEnv_env (v : Environment) : (s.setEnv v).env = v := rfl
@[simp] theorem State.setEnv_inst (v : Environment) : (s.setEnv v).inst = s.inst := rfl
@[simp] theorem State.setEnv_free (v : Environment) : (s.setEnv v).free = s.free := rfl

@[simp] theorem State.setFree_a (v : Nat) : (s.setFree v).a = s.a := rfl
@[simp] theorem State.setFree_q (v : Nat) : (s.setFree v).q = s.q := rfl
@[simp] theorem State.setFree_b (v : Nat) : (s.setFree v).b = s.b := rfl
@[simp] theorem State.setFree_p (v : Nat) : (s.setFree v).p = s.p := rfl
@[simp] theorem State.setFree_u (v : Nat) : (s.setFree v).u = s.u := rfl
@[simp] theorem State.setFree_mem (v : Nat) : (s.setFree v).mem = s.mem := rfl
@[simp] theorem State.setFree_ind (v : Nat) : (s.setFree v).ind = s.ind := rfl
@[simp] theorem State.setFree_intr (v : Nat) : (s.setFree v).intr = s.intr := rfl
@[simp] theorem State.setFree_chan (v : Nat) : (s.setFree v).chan = s.chan := rfl
@[simp] theorem State.setFree_con (v : Nat) : (s.setFree v).con = s.con := rfl
@[simp] theorem State.setFree_panel (v : Nat) : (s.setFree v).panel = s.panel := rfl
@[simp] theorem State.setFree_env (v : Nat) : (s.setFree v).env = s.env := rfl
@[simp] theorem State.setFree_inst (v : Nat) : (s.setFree v).inst = s.inst := rfl
@[simp] theorem State.setFree_free (v : Nat) : (s.setFree v).free = v := rfl

@[simp] theorem State.setB_a (i : Index) (v : Addr) : (s.setB i v).a = s.a := rfl
@[simp] theorem State.setB_q (i : Index) (v : Addr) : (s.setB i v).q = s.q := rfl
@[simp] theorem State.setB_b (i : Index) (v : Addr) : (s.setB i v).b = s.b.set i v := rfl
@[simp] theorem State.setB_p (i : Index) (v : Addr) : (s.setB i v).p = s.p := rfl
@[simp] theorem State.setB_u (i : Index) (v : Addr) : (s.setB i v).u = s.u := rfl
@[simp] theorem State.setB_mem (i : Index) (v : Addr) : (s.setB i v).mem = s.mem := rfl
@[simp] theorem State.setB_ind (i : Index) (v : Addr) : (s.setB i v).ind = s.ind := rfl
@[simp] theorem State.setB_intr (i : Index) (v : Addr) : (s.setB i v).intr = s.intr := rfl
@[simp] theorem State.setB_chan (i : Index) (v : Addr) : (s.setB i v).chan = s.chan := rfl
@[simp] theorem State.setB_con (i : Index) (v : Addr) : (s.setB i v).con = s.con := rfl
@[simp] theorem State.setB_panel (i : Index) (v : Addr) : (s.setB i v).panel = s.panel := rfl
@[simp] theorem State.setB_env (i : Index) (v : Addr) : (s.setB i v).env = s.env := rfl
@[simp] theorem State.setB_inst (i : Index) (v : Addr) : (s.setB i v).inst = s.inst := rfl
@[simp] theorem State.setB_free (i : Index) (v : Addr) : (s.setB i v).free = s.free := rfl

/-! ### The updates built from them -/

@[simp] theorem State.setActive_a (c : Channel) (v : Bool) : (s.setActive c v).a = s.a := rfl
@[simp] theorem State.setActive_q (c : Channel) (v : Bool) : (s.setActive c v).q = s.q := rfl
@[simp] theorem State.setActive_b (c : Channel) (v : Bool) : (s.setActive c v).b = s.b := rfl
@[simp] theorem State.setActive_p (c : Channel) (v : Bool) : (s.setActive c v).p = s.p := rfl
@[simp] theorem State.setActive_u (c : Channel) (v : Bool) : (s.setActive c v).u = s.u := rfl
@[simp] theorem State.setActive_mem (c : Channel) (v : Bool) : (s.setActive c v).mem = s.mem := rfl
@[simp] theorem State.setActive_ind (c : Channel) (v : Bool) : (s.setActive c v).ind = s.ind := rfl
@[simp] theorem State.setActive_intr (c : Channel) (v : Bool) : (s.setActive c v).intr = s.intr := rfl
@[simp] theorem State.setActive_chan (c : Channel) (v : Bool) : (s.setActive c v).chan = { s.chan with active := s.chan.active.set c v } := rfl
@[simp] theorem State.setActive_con (c : Channel) (v : Bool) : (s.setActive c v).con = s.con := rfl
@[simp] theorem State.setActive_panel (c : Channel) (v : Bool) : (s.setActive c v).panel = s.panel := rfl
@[simp] theorem State.setActive_env (c : Channel) (v : Bool) : (s.setActive c v).env = s.env := rfl
@[simp] theorem State.setActive_inst (c : Channel) (v : Bool) : (s.setActive c v).inst = s.inst := rfl
@[simp] theorem State.setActive_free (c : Channel) (v : Bool) : (s.setActive c v).free = s.free := rfl

@[simp] theorem State.setUsers_a (v : Users) : (s.setUsers v).a = s.a := rfl
@[simp] theorem State.setUsers_q (v : Users) : (s.setUsers v).q = s.q := rfl
@[simp] theorem State.setUsers_b (v : Users) : (s.setUsers v).b = s.b := rfl
@[simp] theorem State.setUsers_p (v : Users) : (s.setUsers v).p = s.p := rfl
@[simp] theorem State.setUsers_u (v : Users) : (s.setUsers v).u = s.u := rfl
@[simp] theorem State.setUsers_mem (v : Users) : (s.setUsers v).mem = s.mem := rfl
@[simp] theorem State.setUsers_ind (v : Users) : (s.setUsers v).ind = s.ind := rfl
@[simp] theorem State.setUsers_intr (v : Users) : (s.setUsers v).intr = s.intr := rfl
@[simp] theorem State.setUsers_chan (v : Users) : (s.setUsers v).chan = { s.chan with user := v } := rfl
@[simp] theorem State.setUsers_con (v : Users) : (s.setUsers v).con = s.con := rfl
@[simp] theorem State.setUsers_panel (v : Users) : (s.setUsers v).panel = s.panel := rfl
@[simp] theorem State.setUsers_env (v : Users) : (s.setUsers v).env = s.env := rfl
@[simp] theorem State.setUsers_inst (v : Users) : (s.setUsers v).inst = s.inst := rfl
@[simp] theorem State.setUsers_free (v : Users) : (s.setUsers v).free = s.free := rfl

@[simp] theorem State.exit_a : s.exit.a = s.a := rfl
@[simp] theorem State.exit_q : s.exit.q = s.q := rfl
@[simp] theorem State.exit_b : s.exit.b = s.b := rfl
@[simp] theorem State.exit_p : s.exit.p = inc15 s.p := rfl
@[simp] theorem State.exit_u : s.exit.u = s.u := rfl
@[simp] theorem State.exit_mem : s.exit.mem = s.mem := rfl
@[simp] theorem State.exit_ind : s.exit.ind = s.ind := rfl
@[simp] theorem State.exit_intr : s.exit.intr = s.intr := rfl
@[simp] theorem State.exit_chan : s.exit.chan = s.chan := rfl
@[simp] theorem State.exit_con : s.exit.con = s.con := rfl
@[simp] theorem State.exit_panel : s.exit.panel = s.panel := rfl
@[simp] theorem State.exit_env : s.exit.env = s.env := rfl
@[simp] theorem State.exit_inst : s.exit.inst = s.inst := rfl
@[simp] theorem State.exit_free : s.exit.free = s.free := rfl

@[simp] theorem State.skipExit_a : s.skipExit.a = s.a := rfl
@[simp] theorem State.skipExit_q : s.skipExit.q = s.q := rfl
@[simp] theorem State.skipExit_b : s.skipExit.b = s.b := rfl
@[simp] theorem State.skipExit_p : s.skipExit.p = inc15 (inc15 s.p) := rfl
@[simp] theorem State.skipExit_u : s.skipExit.u = s.u := rfl
@[simp] theorem State.skipExit_mem : s.skipExit.mem = s.mem := rfl
@[simp] theorem State.skipExit_ind : s.skipExit.ind = s.ind := rfl
@[simp] theorem State.skipExit_intr : s.skipExit.intr = s.intr := rfl
@[simp] theorem State.skipExit_chan : s.skipExit.chan = s.chan := rfl
@[simp] theorem State.skipExit_con : s.skipExit.con = s.con := rfl
@[simp] theorem State.skipExit_panel : s.skipExit.panel = s.panel := rfl
@[simp] theorem State.skipExit_env : s.skipExit.env = s.env := rfl
@[simp] theorem State.skipExit_inst : s.skipExit.inst = s.inst := rfl
@[simp] theorem State.skipExit_free : s.skipExit.free = s.free := rfl

@[simp] theorem State.jumpExit_a (t : Addr) : (s.jumpExit t).a = s.a := rfl
@[simp] theorem State.jumpExit_q (t : Addr) : (s.jumpExit t).q = s.q := rfl
@[simp] theorem State.jumpExit_b (t : Addr) : (s.jumpExit t).b = s.b := rfl
@[simp] theorem State.jumpExit_p (t : Addr) : (s.jumpExit t).p = t := rfl
@[simp] theorem State.jumpExit_u (t : Addr) : (s.jumpExit t).u = s.u := rfl
@[simp] theorem State.jumpExit_mem (t : Addr) : (s.jumpExit t).mem = s.mem := rfl
@[simp] theorem State.jumpExit_ind (t : Addr) : (s.jumpExit t).ind = s.ind := rfl
@[simp] theorem State.jumpExit_intr (t : Addr) : (s.jumpExit t).intr = s.intr := rfl
@[simp] theorem State.jumpExit_chan (t : Addr) : (s.jumpExit t).chan = s.chan := rfl
@[simp] theorem State.jumpExit_con (t : Addr) : (s.jumpExit t).con = s.con := rfl
@[simp] theorem State.jumpExit_panel (t : Addr) : (s.jumpExit t).panel = s.panel := rfl
@[simp] theorem State.jumpExit_env (t : Addr) : (s.jumpExit t).env = s.env := rfl
@[simp] theorem State.jumpExit_inst (t : Addr) : (s.jumpExit t).inst = s.inst := rfl
@[simp] theorem State.jumpExit_free (t : Addr) : (s.jumpExit t).free = s.free := rfl

@[simp] theorem State.skipIf_a (c : Bool) : (s.skipIf c).a = s.a := by cases c <;> rfl
@[simp] theorem State.skipIf_q (c : Bool) : (s.skipIf c).q = s.q := by cases c <;> rfl
@[simp] theorem State.skipIf_b (c : Bool) : (s.skipIf c).b = s.b := by cases c <;> rfl
theorem State.skipIf_p (c : Bool) : (s.skipIf c).p = if c then inc15 (inc15 s.p) else inc15 s.p := by
  cases c <;> rfl
@[simp] theorem State.skipIf_u (c : Bool) : (s.skipIf c).u = s.u := by cases c <;> rfl
@[simp] theorem State.skipIf_mem (c : Bool) : (s.skipIf c).mem = s.mem := by cases c <;> rfl
@[simp] theorem State.skipIf_ind (c : Bool) : (s.skipIf c).ind = s.ind := by cases c <;> rfl
@[simp] theorem State.skipIf_intr (c : Bool) : (s.skipIf c).intr = s.intr := by cases c <;> rfl
@[simp] theorem State.skipIf_chan (c : Bool) : (s.skipIf c).chan = s.chan := by cases c <;> rfl
@[simp] theorem State.skipIf_con (c : Bool) : (s.skipIf c).con = s.con := by cases c <;> rfl
@[simp] theorem State.skipIf_panel (c : Bool) : (s.skipIf c).panel = s.panel := by cases c <;> rfl
@[simp] theorem State.skipIf_env (c : Bool) : (s.skipIf c).env = s.env := by cases c <;> rfl
@[simp] theorem State.skipIf_inst (c : Bool) : (s.skipIf c).inst = s.inst := by cases c <;> rfl
@[simp] theorem State.skipIf_free (c : Bool) : (s.skipIf c).free = s.free := by cases c <;> rfl

@[simp] theorem State.setIndex_a (i : Option Index) (v : Addr) : (s.setIndex i v).a = s.a := by
  cases i <;> rfl
@[simp] theorem State.setIndex_q (i : Option Index) (v : Addr) : (s.setIndex i v).q = s.q := by
  cases i <;> rfl
theorem State.setIndex_b (i : Option Index) (v : Addr) :
    (s.setIndex i v).b = match i with | none => s.b | some j => s.b.set j v := by
  cases i <;> rfl
@[simp] theorem State.setIndex_p (i : Option Index) (v : Addr) : (s.setIndex i v).p = s.p := by
  cases i <;> rfl
@[simp] theorem State.setIndex_u (i : Option Index) (v : Addr) : (s.setIndex i v).u = s.u := by
  cases i <;> rfl
@[simp] theorem State.setIndex_mem (i : Option Index) (v : Addr) : (s.setIndex i v).mem = s.mem := by
  cases i <;> rfl
@[simp] theorem State.setIndex_ind (i : Option Index) (v : Addr) : (s.setIndex i v).ind = s.ind := by
  cases i <;> rfl
@[simp] theorem State.setIndex_intr (i : Option Index) (v : Addr) : (s.setIndex i v).intr = s.intr := by
  cases i <;> rfl
@[simp] theorem State.setIndex_chan (i : Option Index) (v : Addr) : (s.setIndex i v).chan = s.chan := by
  cases i <;> rfl
@[simp] theorem State.setIndex_con (i : Option Index) (v : Addr) : (s.setIndex i v).con = s.con := by
  cases i <;> rfl
@[simp] theorem State.setIndex_panel (i : Option Index) (v : Addr) : (s.setIndex i v).panel = s.panel := by
  cases i <;> rfl
@[simp] theorem State.setIndex_env (i : Option Index) (v : Addr) : (s.setIndex i v).env = s.env := by
  cases i <;> rfl
@[simp] theorem State.setIndex_inst (i : Option Index) (v : Addr) : (s.setIndex i v).inst = s.inst := by
  cases i <;> rfl
@[simp] theorem State.setIndex_free (i : Option Index) (v : Addr) : (s.setIndex i v).free = s.free := by
  cases i <;> rfl

@[simp] theorem State.setIndex_none (v : Addr) : s.setIndex none v = s := rfl
@[simp] theorem State.setIndex_some (i : Index) (v : Addr) : s.setIndex (some i) v = s.setB i v := rfl

@[simp] theorem State.substitute_a (b d : Desig) (m : Addr) : (s.substitute b d m).a = s.a := by
  unfold State.substitute; split <;> rfl
@[simp] theorem State.substitute_q (b d : Desig) (m : Addr) : (s.substitute b d m).q = s.q := by
  unfold State.substitute; split <;> rfl
@[simp] theorem State.substitute_b (b d : Desig) (m : Addr) : (s.substitute b d m).b = s.b := by
  unfold State.substitute; split <;> rfl
@[simp] theorem State.substitute_p (b d : Desig) (m : Addr) : (s.substitute b d m).p = s.p := by
  unfold State.substitute; split <;> rfl
@[simp] theorem State.substitute_mem (b d : Desig) (m : Addr) : (s.substitute b d m).mem = s.mem := by
  unfold State.substitute; split <;> rfl
@[simp] theorem State.substitute_ind (b d : Desig) (m : Addr) : (s.substitute b d m).ind = s.ind := by
  unfold State.substitute; split <;> rfl
@[simp] theorem State.substitute_intr (b d : Desig) (m : Addr) : (s.substitute b d m).intr = s.intr := by
  unfold State.substitute; split <;> rfl
@[simp] theorem State.substitute_chan (b d : Desig) (m : Addr) : (s.substitute b d m).chan = s.chan := by
  unfold State.substitute; split <;> rfl
@[simp] theorem State.substitute_con (b d : Desig) (m : Addr) : (s.substitute b d m).con = s.con := by
  unfold State.substitute; split <;> rfl
@[simp] theorem State.substitute_panel (b d : Desig) (m : Addr) : (s.substitute b d m).panel = s.panel := by
  unfold State.substitute; split <;> rfl
@[simp] theorem State.substitute_env (b d : Desig) (m : Addr) : (s.substitute b d m).env = s.env := by
  unfold State.substitute; split <;> rfl
@[simp] theorem State.substitute_inst (b d : Desig) (m : Addr) : (s.substitute b d m).inst = s.inst := by
  unfold State.substitute; split <;> rfl
@[simp] theorem State.substitute_free (b d : Desig) (m : Addr) : (s.substitute b d m).free = s.free := by
  unfold State.substitute; split <;> rfl
theorem State.substitute_u (b d : Desig) (m : Addr) :
    (s.substitute b d m).u = if b = 7 then makeWord (opField s.u) d m else s.u := by
  unfold State.substitute; split <;> rfl

/-- With a designator other than 7 there is no substitution. -/
theorem State.substitute_of_ne (b d : Desig) (m : Addr) (h : b ≠ 7) : s.substitute b d m = s := if_neg h

@[simp] theorem State.raiseOverflow_a (c : Bool) : (s.raiseOverflow c).a = s.a := rfl
@[simp] theorem State.raiseOverflow_q (c : Bool) : (s.raiseOverflow c).q = s.q := rfl
@[simp] theorem State.raiseOverflow_b (c : Bool) : (s.raiseOverflow c).b = s.b := rfl
@[simp] theorem State.raiseOverflow_p (c : Bool) : (s.raiseOverflow c).p = s.p := rfl
@[simp] theorem State.raiseOverflow_u (c : Bool) : (s.raiseOverflow c).u = s.u := rfl
@[simp] theorem State.raiseOverflow_mem (c : Bool) : (s.raiseOverflow c).mem = s.mem := rfl
@[simp] theorem State.raiseOverflow_ind (c : Bool) : (s.raiseOverflow c).ind = { s.ind with overflow := s.ind.overflow || c } := rfl
@[simp] theorem State.raiseOverflow_intr (c : Bool) : (s.raiseOverflow c).intr = s.intr := rfl
@[simp] theorem State.raiseOverflow_chan (c : Bool) : (s.raiseOverflow c).chan = s.chan := rfl
@[simp] theorem State.raiseOverflow_con (c : Bool) : (s.raiseOverflow c).con = s.con := rfl
@[simp] theorem State.raiseOverflow_panel (c : Bool) : (s.raiseOverflow c).panel = s.panel := rfl
@[simp] theorem State.raiseOverflow_env (c : Bool) : (s.raiseOverflow c).env = s.env := rfl
@[simp] theorem State.raiseOverflow_inst (c : Bool) : (s.raiseOverflow c).inst = s.inst := rfl
@[simp] theorem State.raiseOverflow_free (c : Bool) : (s.raiseOverflow c).free = s.free := rfl

@[simp] theorem State.raiseShift_a (k : Addr) : (s.raiseShift k).a = s.a := rfl
@[simp] theorem State.raiseShift_q (k : Addr) : (s.raiseShift k).q = s.q := rfl
@[simp] theorem State.raiseShift_b (k : Addr) : (s.raiseShift k).b = s.b := rfl
@[simp] theorem State.raiseShift_p (k : Addr) : (s.raiseShift k).p = s.p := rfl
@[simp] theorem State.raiseShift_u (k : Addr) : (s.raiseShift k).u = s.u := rfl
@[simp] theorem State.raiseShift_mem (k : Addr) : (s.raiseShift k).mem = s.mem := rfl
@[simp] theorem State.raiseShift_ind (k : Addr) : (s.raiseShift k).ind = { s.ind with shift := s.ind.shift || decide (63 < k.toNat) } := rfl
@[simp] theorem State.raiseShift_intr (k : Addr) : (s.raiseShift k).intr = s.intr := rfl
@[simp] theorem State.raiseShift_chan (k : Addr) : (s.raiseShift k).chan = s.chan := rfl
@[simp] theorem State.raiseShift_con (k : Addr) : (s.raiseShift k).con = s.con := rfl
@[simp] theorem State.raiseShift_panel (k : Addr) : (s.raiseShift k).panel = s.panel := rfl
@[simp] theorem State.raiseShift_env (k : Addr) : (s.raiseShift k).env = s.env := rfl
@[simp] theorem State.raiseShift_inst (k : Addr) : (s.raiseShift k).inst = s.inst := rfl
@[simp] theorem State.raiseShift_free (k : Addr) : (s.raiseShift k).free = s.free := rfl

@[simp] theorem State.raiseDivide_a : s.raiseDivide.a = s.a := rfl
@[simp] theorem State.raiseDivide_q : s.raiseDivide.q = s.q := rfl
@[simp] theorem State.raiseDivide_b : s.raiseDivide.b = s.b := rfl
@[simp] theorem State.raiseDivide_p : s.raiseDivide.p = s.p := rfl
@[simp] theorem State.raiseDivide_u : s.raiseDivide.u = s.u := rfl
@[simp] theorem State.raiseDivide_mem : s.raiseDivide.mem = s.mem := rfl
@[simp] theorem State.raiseDivide_ind : s.raiseDivide.ind = { s.ind with divide := true } := rfl
@[simp] theorem State.raiseDivide_intr : s.raiseDivide.intr = s.intr := rfl
@[simp] theorem State.raiseDivide_chan : s.raiseDivide.chan = s.chan := rfl
@[simp] theorem State.raiseDivide_con : s.raiseDivide.con = s.con := rfl
@[simp] theorem State.raiseDivide_panel : s.raiseDivide.panel = s.panel := rfl
@[simp] theorem State.raiseDivide_env : s.raiseDivide.env = s.env := rfl
@[simp] theorem State.raiseDivide_inst : s.raiseDivide.inst = s.inst := rfl
@[simp] theorem State.raiseDivide_free : s.raiseDivide.free = s.free := rfl

@[simp] theorem State.clearFaults_a : s.clearFaults.a = s.a := rfl
@[simp] theorem State.clearFaults_q : s.clearFaults.q = s.q := rfl
@[simp] theorem State.clearFaults_b : s.clearFaults.b = s.b := rfl
@[simp] theorem State.clearFaults_p : s.clearFaults.p = s.p := rfl
@[simp] theorem State.clearFaults_u : s.clearFaults.u = s.u := rfl
@[simp] theorem State.clearFaults_mem : s.clearFaults.mem = s.mem := rfl
@[simp] theorem State.clearFaults_ind : s.clearFaults.ind = { s.ind with divide := false, shift := false, overflow := false } := rfl
@[simp] theorem State.clearFaults_intr : s.clearFaults.intr = s.intr := rfl
@[simp] theorem State.clearFaults_chan : s.clearFaults.chan = s.chan := rfl
@[simp] theorem State.clearFaults_con : s.clearFaults.con = s.con := rfl
@[simp] theorem State.clearFaults_panel : s.clearFaults.panel = s.panel := rfl
@[simp] theorem State.clearFaults_env : s.clearFaults.env = s.env := rfl
@[simp] theorem State.clearFaults_inst : s.clearFaults.inst = s.inst := rfl
@[simp] theorem State.clearFaults_free : s.clearFaults.free = s.free := rfl

@[simp] theorem State.sumToA_a (x y : Word) : (s.sumToA x y).a = add24 x y := rfl
@[simp] theorem State.sumToA_q (x y : Word) : (s.sumToA x y).q = s.q := rfl
@[simp] theorem State.sumToA_b (x y : Word) : (s.sumToA x y).b = s.b := rfl
@[simp] theorem State.sumToA_p (x y : Word) : (s.sumToA x y).p = s.p := rfl
@[simp] theorem State.sumToA_u (x y : Word) : (s.sumToA x y).u = s.u := rfl
@[simp] theorem State.sumToA_mem (x y : Word) : (s.sumToA x y).mem = s.mem := rfl
@[simp] theorem State.sumToA_ind (x y : Word) : (s.sumToA x y).ind =
    { s.ind with overflow := s.ind.overflow || ovf24 x y (add24 x y) } := rfl
@[simp] theorem State.sumToA_intr (x y : Word) : (s.sumToA x y).intr = s.intr := rfl
@[simp] theorem State.sumToA_chan (x y : Word) : (s.sumToA x y).chan = s.chan := rfl
@[simp] theorem State.sumToA_con (x y : Word) : (s.sumToA x y).con = s.con := rfl
@[simp] theorem State.sumToA_panel (x y : Word) : (s.sumToA x y).panel = s.panel := rfl
@[simp] theorem State.sumToA_env (x y : Word) : (s.sumToA x y).env = s.env := rfl
@[simp] theorem State.sumToA_inst (x y : Word) : (s.sumToA x y).inst = s.inst := rfl
@[simp] theorem State.sumToA_free (x y : Word) : (s.sumToA x y).free = s.free := rfl

@[simp] theorem State.stop_a : s.stop.a = s.a := rfl
@[simp] theorem State.stop_q : s.stop.q = s.q := rfl
@[simp] theorem State.stop_b : s.stop.b = s.b := rfl
@[simp] theorem State.stop_p : s.stop.p = s.p := rfl
@[simp] theorem State.stop_u : s.stop.u = s.u := rfl
@[simp] theorem State.stop_mem : s.stop.mem = s.mem := rfl
@[simp] theorem State.stop_ind : s.stop.ind = s.ind := rfl
@[simp] theorem State.stop_intr : s.stop.intr = s.intr := rfl
@[simp] theorem State.stop_chan : s.stop.chan = s.chan := rfl
@[simp] theorem State.stop_con : s.stop.con = s.con := rfl
@[simp] theorem State.stop_panel : s.stop.panel = { s.panel with run := .stopped, uSet := false } := rfl
@[simp] theorem State.stop_env : s.stop.env = s.env := rfl
@[simp] theorem State.stop_inst : s.stop.inst = s.inst := rfl
@[simp] theorem State.stop_free : s.stop.free = s.free := rfl

@[simp] theorem State.endLockout_a (p0 : Addr) : (s.endLockout p0).a = s.a := by
  unfold State.endLockout; split <;> rfl
@[simp] theorem State.endLockout_q (p0 : Addr) : (s.endLockout p0).q = s.q := by
  unfold State.endLockout; split <;> rfl
@[simp] theorem State.endLockout_b (p0 : Addr) : (s.endLockout p0).b = s.b := by
  unfold State.endLockout; split <;> rfl
@[simp] theorem State.endLockout_p (p0 : Addr) : (s.endLockout p0).p = s.p := by
  unfold State.endLockout; split <;> rfl
@[simp] theorem State.endLockout_u (p0 : Addr) : (s.endLockout p0).u = s.u := by
  unfold State.endLockout; split <;> rfl
@[simp] theorem State.endLockout_mem (p0 : Addr) : (s.endLockout p0).mem = s.mem := by
  unfold State.endLockout; split <;> rfl
@[simp] theorem State.endLockout_ind (p0 : Addr) : (s.endLockout p0).ind = s.ind := by
  unfold State.endLockout; split <;> rfl
theorem State.endLockout_intr (p0 : Addr) :
    (s.endLockout p0).intr = if p0 = interruptAddress then { s.intr with lockout := false } else s.intr := by
  unfold State.endLockout; split <;> rfl
@[simp] theorem State.endLockout_chan (p0 : Addr) : (s.endLockout p0).chan = s.chan := by
  unfold State.endLockout; split <;> rfl
@[simp] theorem State.endLockout_con (p0 : Addr) : (s.endLockout p0).con = s.con := by
  unfold State.endLockout; split <;> rfl
@[simp] theorem State.endLockout_panel (p0 : Addr) : (s.endLockout p0).panel = s.panel := by
  unfold State.endLockout; split <;> rfl
@[simp] theorem State.endLockout_env (p0 : Addr) : (s.endLockout p0).env = s.env := by
  unfold State.endLockout; split <;> rfl
@[simp] theorem State.endLockout_inst (p0 : Addr) : (s.endLockout p0).inst = s.inst := by
  unfold State.endLockout; split <;> rfl
@[simp] theorem State.endLockout_free (p0 : Addr) : (s.endLockout p0).free = s.free := by
  unfold State.endLockout; split <;> rfl

/-! ### Banks -/

@[simp] theorem IndexRegs.get_set_same (r : IndexRegs) (i : Index) (v : Addr) : (r.set i v).get i = v := by
  cases i <;> rfl

theorem IndexRegs.get_set_other (r : IndexRegs) (i j : Index) (v : Addr) (h : j ≠ i) :
    (r.set i v).get j = r.get j := by
  cases i <;> cases j <;> first | rfl | exact absurd rfl h

@[simp] theorem IndexRegs.set_get (r : IndexRegs) (i : Index) : r.set i (r.get i) = r := by
  cases i <;> rfl

@[simp] theorem IndexRegs.set_set (r : IndexRegs) (i : Index) (v w : Addr) : (r.set i v).set i w = r.set i w := by
  cases i <;> rfl

@[simp] theorem PerChannel.get_set_same (r : PerChannel) (c : Channel) (v : Bool) : (r.set c v).get c = v := by
  cases c <;> rfl

theorem PerChannel.get_set_other (r : PerChannel) (c e : Channel) (v : Bool) (h : e ≠ c) :
    (r.set c v).get e = r.get e := by
  cases c <;> cases e <;> first | rfl | exact absurd rfl h

@[simp] theorem PerChannel.get_filter (r : PerChannel) (keep : Channel → Bool) (c : Channel) :
    (r.filter keep).get c = (r.get c && keep c) := by
  cases c <;> rfl

@[simp] theorem Users.get_set_same (r : Users) (c : Channel) (v : Option Selection) : (r.set c v).get c = v := by
  cases c <;> rfl

theorem Users.get_set_other (r : Users) (c e : Channel) (v : Option Selection) (h : e ≠ c) :
    (r.set c v).get e = r.get e := by
  cases c <;> cases e <;> first | rfl | exact absurd rfl h

@[simp] theorem Users.get_clear (r : Users) (c e : Channel) :
    (r.clear c).get e = (r.get e).filter fun x => decide (x.digit ≠ c) := by
  cases e <;> rfl

@[simp] theorem Channel.partner_partner (c : Channel) : c.partner.partner = c := by cases c <;> rfl

theorem Channel.partner_ne (c : Channel) : c.partner ≠ c := by cases c <;> decide

@[simp] theorem Keys.get_set_same (r : Keys) (k : Key) (v : Bool) : (r.set k v).get k = v := by
  cases k <;> rfl

theorem Keys.get_set_other (r : Keys) (k e : Key) (v : Bool) (h : e ≠ k) : (r.set k v).get e = r.get e := by
  cases k <;> cases e <;> first | rfl | exact absurd rfl h

end Sys2Proof.Machine
end

