-- ==== Sys2Proof/Laws/Ops.lean ====
section
/-!
SUPPORT. One lemma for each shared operation of Machine/Ops.lean that says what it can do: where it answers a next
state, which one.
-/

namespace Sys2Proof.Machine

/-! ### Sequencing -/

@[simp] theorem andThen_next (s : State) (k : State → Result) : andThen (.next s) k = k s := rfl
@[simp] theorem andThen_fault (f : Fault) (k : State → Result) : andThen (.fault f) k = .fault f := rfl
@[simp] theorem andThen_refused (e : Refusal) (k : State → Result) : andThen (.refused e) k = .refused e := rfl

/-- A sequence answers a next state exactly where both of its parts do. -/
theorem andThen_eq_next {r : Result} {k : State → Result} {t : State} :
    andThen r k = .next t ↔ ∃ s1, r = .next s1 ∧ k s1 = .next t := by
  cases r <;> simp

theorem State.withRead_ok {s : State} {a : Addr} {w : Word} {k : Word → Result} (h : s.readWord a = .ok w) :
    s.withRead a k = k w := by
  unfold State.withRead; rw [h]

/-- What follows a read answers a next state exactly where the read answers a word and it does for that word. -/
theorem State.withRead_eq_next {s : State} {a : Addr} {k : Word → Result} {t : State} :
    s.withRead a k = .next t ↔ ∃ w, s.readWord a = .ok w ∧ k w = .next t := by
  unfold State.withRead
  cases h : s.readWord a <;> simp

/-! ### Storage -/

theorem Installation.words_le (i : Installation) : i.size.words ≤ 32768 := by
  cases i.size <;> decide

theorem Installation.words_pos (i : Installation) : 0 < i.size.words := by cases i.size <;> decide

/-- An address below `MEM_WORDS` leads to the location of its own number. -/
theorem Installation.locate_of_lt {i : Installation} {a : Addr} (h : a.toNat < i.size.words) :
    i.locate a = .word a.toNat := if_pos h

/-- An installed location has a number below 2^15. -/
theorem Installation.locate_lt {i : Installation} {a : Addr} {n : Nat} (h : i.locate a = .word n) : n < 32768 := by
  have hw := i.words_le
  have hp := i.words_pos
  unfold Installation.locate at h
  split at h
  · injection h with h; omega
  · split at h <;> first | (injection h with h; have := Nat.mod_lt a.toNat hp; omega) | cases h

theorem State.readWord_of_locate {s : State} {a : Addr} {n : Nat} (h : s.inst.locate a = .word n) :
    s.readWord a = .ok (s.mem.read n) := by
  unfold State.readWord; rw [h]

theorem State.writeWord_of_locate {s : State} {a : Addr} {n : Nat} (v : Word) (h : s.inst.locate a = .word n) :
    s.writeWord a v = .next { s with mem := s.mem.write n v } := by
  unfold State.writeWord; rw [h]

theorem State.writeAddr_of_locate {s : State} {a : Addr} {n : Nat} (v : Addr) (h : s.inst.locate a = .word n) :
    s.writeAddr a v = .next { s with mem := s.mem.write n (withAddressPart (s.mem.read n) v) } := by
  unfold State.writeAddr
  rw [State.readWord_of_locate h]
  exact State.writeWord_of_locate _ h

/-- What follows a store goes on from the stored state. -/
theorem State.writeWord_then {s : State} {a : Addr} {n : Nat} {v : Word} {k : State → Result}
    (h : s.inst.locate a = .word n) : andThen (s.writeWord a v) k = k { s with mem := s.mem.write n v } := by
  rw [State.writeWord_of_locate v h]; rfl

theorem State.writeAddr_then {s : State} {a : Addr} {n : Nat} {v : Addr} {k : State → Result}
    (h : s.inst.locate a = .word n) :
    andThen (s.writeAddr a v) k = k { s with mem := s.mem.write n (withAddressPart (s.mem.read n) v) } := by
  rw [State.writeAddr_of_locate v h]; rfl

/-- A store that completes writes one installed location, or none. -/
theorem State.writeWord_cases {s t : State} {a : Addr} {v : Word} (h : s.writeWord a v = .next t) :
    t = s ∨ ∃ n, n < 32768 ∧ s.inst.locate a = .word n ∧ t = { s with mem := s.mem.write n v } := by
  unfold State.writeWord at h
  split at h
  · rename_i n hn
    injection h with h
    exact .inr ⟨n, Installation.locate_lt hn, hn, h.symm⟩
  · cases h
  · injection h with h; exact .inl h.symm

/-- A store changes storage only. -/
theorem State.writeWord_frame {s t : State} {a : Addr} {v : Word} (h : s.writeWord a v = .next t) :
    t = { s with mem := t.mem } := by
  rcases State.writeWord_cases h with rfl | ⟨n, _, _, rfl⟩ <;> rfl

/-- A store keeps the canonical form. -/
theorem State.writeWord_wf {s t : State} {a : Addr} {v : Word} (h : s.writeWord a v = .next t)
    (hm : s.mem.wf = true) : t.mem.wf = true := by
  rcases State.writeWord_cases h with rfl | ⟨n, hn, _, rfl⟩
  · exact hm
  · exact Memory.write_wf _ _ _ hn hm

/-- A store of an address portion is a store of a word. -/
theorem State.writeAddr_eq_next {s t : State} {a v : Addr} (h : s.writeAddr a v = .next t) :
    ∃ w, s.readWord a = .ok w ∧ s.writeWord a (withAddressPart w v) = .next t := by
  unfold State.writeAddr at h
  split at h
  · exact ⟨_, ‹_›, h⟩
  · cases h

theorem State.writeAddr_frame {s t : State} {a v : Addr} (h : s.writeAddr a v = .next t) :
    t = { s with mem := t.mem } := by
  obtain ⟨_, _, hw⟩ := State.writeAddr_eq_next h
  exact State.writeWord_frame hw

theorem State.writeAddr_wf {s t : State} {a v : Addr} (h : s.writeAddr a v = .next t) (hm : s.mem.wf = true) :
    t.mem.wf = true := by
  obtain ⟨_, _, hw⟩ := State.writeAddr_eq_next h
  exact State.writeWord_wf hw hm

/-- Which word a read answers depends on storage, the installation and the counter of free values only. -/
theorem State.readWord_congr {s t : State} (a : Addr) (hm : t.mem = s.mem) (hi : t.inst = s.inst)
    (hf : t.free = s.free) : t.readWord a = s.readWord a := by
  unfold State.readWord; rw [hm, hi, hf]

/-! ### Parts of a word -/

theorem withAddressPart_getLsbD (w : Word) (v : Addr) (i : Nat) :
    (withAddressPart w v).getLsbD i = if i < 15 then v.getLsbD i else (w.extractLsb' 15 9).getLsbD (i - 15) :=
  (BitVec.getLsbD_append (x := w.extractLsb' 15 9) (y := v) (i := i)).trans (by simp)

@[simp] theorem addressPart_withAddressPart (w : Word) (v : Addr) : addressPart (withAddressPart w v) = v := by
  unfold addressPart
  ext i hi
  simp [withAddressPart_getLsbD, hi, ← BitVec.getLsbD_eq_getElem]

/-- The upper nine bits are kept (R63). -/
theorem upper_withAddressPart (w : Word) (v : Addr) :
    (withAddressPart w v).extractLsb' 15 9 = w.extractLsb' 15 9 := by
  ext i hi
  simp [withAddressPart_getLsbD, BitVec.getElem_extractLsb', hi]

/-! ### Jumps and the interrupt -/

/-- A return jump to an installed location (R216). -/
theorem State.returnJump_of_locate {s : State} {a : Addr} {n : Nat} (h : s.inst.locate a = .word n) :
    s.returnJump a =
      .next { s with mem := s.mem.write n (withAddressPart (s.mem.read n) (inc15 s.p)), p := inc15 a } :=
  State.writeAddr_then h

/-- A return jump that completes stores the next address in the address portion of its target (R216). -/
theorem State.returnJump_eq_next {s t : State} {a : Addr} :
    s.returnJump a = .next t ↔ ∃ s1, s.writeAddr a (inc15 s.p) = .next s1 ∧ t = s1.setP (inc15 a) := by
  unfold State.returnJump
  rw [andThen_eq_next]
  constructor
  · rintro ⟨s1, h, hk⟩; injection hk with hk; exact ⟨s1, h, hk.symm⟩
  · rintro ⟨s1, h, rfl⟩; exact ⟨s1, h, rfl⟩

/-- An interrupt entry that completes stores P in the address portion of word 00016 (R282). -/
theorem State.interruptEntry_eq_next {s t : State} :
    s.interruptEntry = .next t ↔ ∃ s1, s.writeAddr interruptAddress s.p = .next s1 ∧
      t = (s1.setP (inc15 interruptAddress)).setIntr
        { s1.intr with lockout := true, rtcRequest := false, deferred := false } := by
  unfold State.interruptEntry
  rw [andThen_eq_next]
  constructor
  · rintro ⟨s1, h, hk⟩; injection hk with hk; exact ⟨s1, h, hk.symm⟩
  · rintro ⟨s1, h, rfl⟩; exact ⟨s1, h, rfl⟩

end Sys2Proof.Machine
end

