-- ==== Sys2Proof/Laws/Buffer.lean ====
section
/-!
SUPPORT. The steps of the buffer agent (R241, R242): where they complete, and with what state.
-/

namespace Sys2Proof.Machine

/-- The special addresses are installed on every machine (R5, R66). -/
theorem Installation.locate_special (i : Installation) {n : Nat} (h : n < 8192) :
    i.locate (BitVec.ofNat 15 n) = .word n := by
  have e : (BitVec.ofNat 15 n).toNat = n := by
    rw [BitVec.toNat_ofNat]; exact Nat.mod_eq_of_lt (by omega)
  have hs : 8192 ≤ i.size.words := by cases i.size <;> decide
  have := Installation.locate_of_lt (i := i) (a := BitVec.ofNat 15 n) (by omega)
  rwa [e] at this

theorem Installation.locate_currentWord (i : Installation) (c : Channel) :
    i.locate (currentWord c) = .word (2 * c.number + 1) :=
  i.locate_special (by cases c <;> decide)

theorem Installation.locate_terminalWord (i : Installation) (c : Channel) :
    i.locate (terminalWord c) = .word (2 * c.number) :=
  i.locate_special (by cases c <;> decide)

theorem Installation.locate_interruptAddress (i : Installation) : i.locate interruptAddress = .word 14 :=
  i.locate_special (n := 14) (by decide)

/-- The end of a transfer step always completes (R241, R242). -/
theorem State.advanceBuffer_ok (s : State) (c : Channel) (next : Addr) :
    s.advanceBuffer c next =
      let s1 : State :=
        { s with mem := s.mem.write (2 * c.number + 1) (withAddressPart (s.mem.read (2 * c.number + 1)) next) }
      .next (if next = addressPart (s.mem.read (2 * c.number)) then s1.setActive c false else s1) := by
  unfold State.advanceBuffer
  rw [State.writeAddr_then (s.inst.locate_currentWord c)]
  refine (State.withRead_ok (State.readWord_of_locate (by exact s.inst.locate_terminalWord c))).trans ?_
  show Host.Outcome.next _ = Host.Outcome.next _
  rw [Memory.read_write_other _ _ _ _ (by omega)]

/-- An input transfer whose current address leads to storage (R241). -/
theorem State.inputStep_ok {s : State} {c : Channel} {w : Word} {n : Nat}
    (h : s.inst.locate (addressPart (s.mem.read (2 * c.number + 1))) = .word n) :
    s.inputStep c w =
      State.advanceBuffer { s with mem := s.mem.write n w } c (inc15 (addressPart (s.mem.read (2 * c.number + 1)))) := by
  unfold State.inputStep
  rw [State.withRead_ok (State.readWord_of_locate (s.inst.locate_currentWord c)), State.writeWord_then h]

/-- An output transfer whose current address reads as `w` (R242). -/
theorem State.outputStep_ok {s : State} {c : Channel} {w : Word} {k : Word → State → Result}
    (h : s.readWord (addressPart (s.mem.read (2 * c.number + 1))) = .ok w) :
    s.outputStep c k =
      andThen (s.advanceBuffer c (inc15 (addressPart (s.mem.read (2 * c.number + 1))))) fun s1 => k w s1 := by
  unfold State.outputStep
  rw [State.withRead_ok (State.readWord_of_locate (s.inst.locate_currentWord c)), State.withRead_ok h]

/-- An interrupt entry always completes (R282). -/
theorem State.interruptEntry_ok (s : State) :
    s.interruptEntry = .next { s with
      mem := s.mem.write 14 (withAddressPart (s.mem.read 14) s.p)
      p := inc15 interruptAddress
      intr := { s.intr with lockout := true, rtcRequest := false, deferred := false } } :=
  State.writeAddr_then s.inst.locate_interruptAddress

end Sys2Proof.Machine
end

