-- ==== Sys2Proof/Laws/Cycle.lean ====
section
/-!
SUPPORT. The parts of a cycle: what follows an instruction, and the boundary at which nothing happens.
-/

namespace Sys2Proof.Machine

theorem State.endLockout_eq (s : State) (p0 : Addr) :
    s.endLockout p0 = { s with intr := s.intr.afterCompleted p0 } := by
  unfold State.endLockout InterruptControl.afterCompleted interruptAddress
  split
  · rename_i h; rw [decide_eq_true h]; simp [State.setIntr]
  · rename_i h; rw [decide_eq_false h]; simp

/-- After an instruction that ran on, outside a single step (R283). -/
theorem State.finish_running {s : State} {p0 : Addr} (hr : s.panel.run = .running) (ho : s.panel.stepOne = false) :
    s.finish p0 = { s with intr := s.intr.afterCompleted p0, free := s.free + 1 } := by
  unfold State.finish
  rw [if_pos hr, State.endLockout_eq]
  simp [State.setFree, ho]

/-- After an instruction that stopped the computer, outside a single step. -/
theorem State.finish_stopped {s : State} {p0 : Addr} (hr : s.panel.run = .stopped) (ho : s.panel.stepOne = false) :
    s.finish p0 = { s with free := s.free + 1 } := by
  unfold State.finish
  rw [if_neg (by rw [hr]; decide)]
  simp [State.setFree, ho]

theorem State.between_iff {s : State} :
    s.between = true ↔ s.panel.run = .running ∧ s.panel.slsPending = false := by
  simp [State.between]

/-- An interrupt that is due and may not be put off is taken. -/
theorem State.recognize_taken {s : State} {late : Bool} (h : s.interruptDue = true)
    (hl : late = false ∨ s.intr.deferred = true) : s.recognize late = s.interruptEntry := by
  unfold State.recognize
  rcases hl with hl | hl <;> simp [h, hl]

/-- One that is not due, or is put off, changes nothing. -/
theorem State.recognize_passed {s : State} {late : Bool}
    (h : s.interruptDue = false ∨ (late = true ∧ s.intr.deferred = false)) : s.recognize late = .next s := by
  unfold State.recognize
  rcases h with h | ⟨h, h'⟩
  · simp [h]
  · simp [h, h']

/-- Outside of the program nothing closes a boundary. -/
theorem State.closeBoundary_outside {s : State} (h : s.between = false) : s.closeBoundary = .next s :=
  if_neg (by simp [h])

/-- A boundary that ends with no interrupt due, or with one that did not hold at the last boundary, records which. -/
theorem State.closeBoundary_between {s : State} (h : s.between = true)
    (hd : s.interruptDue = false ∨ s.intr.deferred = false) :
    s.closeBoundary = .next { s with intr := { s.intr with deferred := s.interruptDue } } := by
  unfold State.closeBoundary State.settle
  rw [if_pos h, State.recognize_passed (hd.imp id (⟨rfl, ·⟩)), andThen_next]
  rfl

/-- With no event and no buffer request at the boundary, a cycle looks at the interrupt, closes the boundary and goes
on. -/
theorem State.cycle_no_events {s : State} (he : s.nextBoundary.events = []) (ha : s.nextBoundary.after = []) :
    s.cycle = andThen (s.popBoundary.scanInterrupt s.nextBoundary.late) fun s1 =>
      andThen s1.closeBoundary fun s2 => s2.proceed := by
  unfold State.cycle State.passBoundary
  rw [he, ha]
  simp only [State.applyAll, andThen_next]
  cases s.popBoundary.scanInterrupt s.nextBoundary.late <;> rfl

end Sys2Proof.Machine
end

