-- ==== Sys2Proof/Laws/Operands.lean ====
section
/-!
SUPPORT. The operand forms: what `resolve`, `modify` and the forms built on them can do.
-/

namespace Sys2Proof.Machine

theorem State.resolve_direct (s : State) (b : Desig) (m : Addr) (h : b ≠ 7) : s.resolve b m = .ok (b, m) := if_neg h

theorem State.resolveChain_ne {s : State} {n : Nat} {m : Addr} {d : Desig} {m1 : Addr}
    (h : s.resolveChain n m = .ok (d, m1)) : d ≠ 7 := by
  induction n generalizing m with
  | zero => cases h
  | succ n ih =>
    unfold State.resolveChain at h
    split at h
    · cases h
    · split at h
      · split at h
        · cases h
        · exact ih h
      · injection h with h; injection h with h1 h2; subst h1; assumption

/-- The designator after `resolve` is never 7 (R96). -/
theorem State.resolve_ne {s : State} {b d : Desig} {m m1 : Addr} (h : s.resolve b m = .ok (d, m1)) : d ≠ 7 := by
  unfold State.resolve at h
  split at h
  · exact State.resolveChain_ne h
  · injection h with h; injection h with h1 h2; subst h1; assumption

/-- `substitute` changes U and nothing else. -/
theorem State.substitute_eq (s : State) (b d : Desig) (m : Addr) :
    s.substitute b d m = { s with u := s.uAfter b d m } := by
  unfold State.substitute State.uAfter
  split <;> rfl

@[simp] theorem State.modify_substitute (s : State) (b d e : Desig) (m m1 : Addr) :
    (s.substitute b d m).modify e m1 = s.modify e m1 := by
  unfold State.modify; simp

@[simp] theorem State.readWord_substitute (s : State) (b d : Desig) (m a : Addr) :
    (s.substitute b d m).readWord a = s.readWord a :=
  State.readWord_congr a (by simp) (by simp) (by simp)

/-- `modify` and a read depend on no more of the state than the index registers, storage and the installation. -/
theorem State.modify_congr {s t : State} (d : Desig) (m : Addr) (h : t.b = s.b) : t.modify d m = s.modify d m := by
  unfold State.modify; rw [h]

theorem State.resolveChain_congr {s t : State} (hm : t.mem = s.mem) (hi : t.inst = s.inst) (hf : t.free = s.free)
    (n : Nat) (m : Addr) : t.resolveChain n m = s.resolveChain n m := by
  induction n generalizing m with
  | zero => rfl
  | succ n ih => unfold State.resolveChain; rw [State.readWord_congr m hm hi hf]; simp only [ih]

theorem State.resolve_congr {s t : State} (b : Desig) (m : Addr) (hm : t.mem = s.mem) (hi : t.inst = s.inst)
    (hf : t.free = s.free) : t.resolve b m = s.resolve b m := by
  unfold State.resolve; rw [State.resolveChain_congr hm hi hf]

/-! ### Storage after a store -/

/-- Storage written at one location holds the word there and is as before elsewhere. -/
theorem State.storedAt_write {s t : State} {n : Nat} {v : Word} (h : t.mem = s.mem.write n v) : s.StoredAt t n v := by
  unfold State.StoredAt State.word
  rw [h]
  exact ⟨Memory.read_write_same _ _ _, fun k hk => Memory.read_write_other _ _ _ _ hk⟩

/-! ### The forms, where they go on -/

theorem State.withResolved_ok {s : State} {b d : Desig} {m m1 : Addr} {k : Desig → Addr → State → Result}
    (h : s.resolve b m = .ok (d, m1)) : s.withResolved b m k = k d m1 (s.substitute b d m1) := by
  unfold State.withResolved; rw [h]

theorem State.withIndex_ok {s : State} {b d : Desig} {m m1 : Addr} {k : Option Index → Addr → State → Result}
    (h : s.resolve b m = .ok (d, m1)) : s.withIndex b m k = k (indexOf d) m1 (s.substitute b d m1) :=
  State.withResolved_ok h

theorem State.withModified_ok {s : State} {b d : Desig} {m m1 : Addr} {k : Addr → State → Result}
    (h : s.resolve b m = .ok (d, m1)) : s.withModified b m k = k (s.modify d m1) (s.substitute b d m1) := by
  unfold State.withModified; rw [State.withResolved_ok h, State.modify_substitute]

theorem State.withOperand_ok {s : State} {b d : Desig} {m m1 : Addr} {w : Word} {k : Addr → Word → State → Result}
    (h : s.resolve b m = .ok (d, m1)) (hw : s.readWord (s.modify d m1) = .ok w) :
    s.withOperand b m k = k (s.modify d m1) w (s.substitute b d m1) := by
  unfold State.withOperand
  rw [State.withModified_ok h]
  exact State.withRead_ok (by rw [State.readWord_substitute]; exact hw)

/-! ### The forms, where they answer a next state -/

theorem State.withResolved_eq_next {s t : State} {b : Desig} {m : Addr} {k : Desig → Addr → State → Result} :
    s.withResolved b m k = .next t ↔
      ∃ d m1, s.resolve b m = .ok (d, m1) ∧ k d m1 (s.substitute b d m1) = .next t := by
  unfold State.withResolved
  cases h : s.resolve b m with
  | error f => simp
  | ok x =>
    obtain ⟨d, m1⟩ := x
    constructor
    · intro hk; exact ⟨d, m1, rfl, hk⟩
    · rintro ⟨d', m', he, hk⟩; injection he with he; injection he with h1 h2; subst h1; subst h2; exact hk

theorem State.withIndex_eq_next {s t : State} {b : Desig} {m : Addr} {k : Option Index → Addr → State → Result} :
    s.withIndex b m k = .next t ↔
      ∃ d m1, s.resolve b m = .ok (d, m1) ∧ k (indexOf d) m1 (s.substitute b d m1) = .next t :=
  State.withResolved_eq_next

theorem State.withModified_eq_next {s t : State} {b : Desig} {m : Addr} {k : Addr → State → Result} :
    s.withModified b m k = .next t ↔
      ∃ d m1, s.resolve b m = .ok (d, m1) ∧ k (s.modify d m1) (s.substitute b d m1) = .next t := by
  unfold State.withModified
  simp only [State.withResolved_eq_next, State.modify_substitute]

theorem State.withOperand_eq_next {s t : State} {b : Desig} {m : Addr} {k : Addr → Word → State → Result} :
    s.withOperand b m k = .next t ↔
      ∃ d m1 w, s.resolve b m = .ok (d, m1) ∧ s.readWord (s.modify d m1) = .ok w ∧
        k (s.modify d m1) w (s.substitute b d m1) = .next t := by
  unfold State.withOperand
  simp only [State.withModified_eq_next, State.withRead_eq_next, State.readWord_substitute]
  constructor
  · rintro ⟨d, m1, h, w, hw, hk⟩; exact ⟨d, m1, w, h, hw, hk⟩
  · rintro ⟨d, m1, w, h, hw, hk⟩; exact ⟨d, m1, h, w, hw, hk⟩

end Sys2Proof.Machine
end

