-- ==== Sys2Proof/Laws/Execute.lean ====
section
/-!
SUPPORT. XEC: the meaning of a word that is executed is the meaning of the same word that is fetched (R225, R226).
-/

namespace Sys2Proof.Machine

theorem executeTarget_zero (i : Instr) (s : State) : executeTarget 0 i s = .fault .endlessExecute := rfl

theorem executeTarget_xec (n : Nat) (b : Desig) (m : Addr) (s : State) :
    executeTarget (n + 1) (.xec b m) s = s.withOperand b m fun _ w s1 =>
      if w = encode (.xec b m) then .fault .endlessExecute else executeTarget n (decode w) (s1.setU w) := rfl

/-- Any instruction but an XEC is executed as `exec` executes it. -/
theorem executeTarget_other (n : Nat) (i : Instr) (s : State) (h : ∀ b m, i ≠ .xec b m) :
    executeTarget (n + 1) i s = exec i s := by
  cases i <;> first | rfl | exact absurd rfl (h _ _)

/-- XEC of a word that is not that very XEC. -/
theorem execXec_ok {s : State} {b d : Desig} {m m1 : Addr} {w : Word} (h : s.resolve b m = .ok (d, m1))
    (hw : s.readWord (s.modify d m1) = .ok w) :
    execXec b m s =
      if w = encode (.xec b m) then .fault .endlessExecute else executeTarget 32768 (decode w) { s with u := w } := by
  unfold execXec maxWords
  rw [executeTarget_xec 32768, State.withOperand_ok h hw, State.substitute_eq]
  rfl

end Sys2Proof.Machine
end

