-- ==== Sys2Proof/Laws/Fields.lean ====
section
/-!
SUPPORT. The three fields of an instruction word, of a word made of three fields, and the word as a number (R91).
-/

namespace Sys2Proof

theorem makeWord_toNat (f : BitVec 6) (b : Desig) (m : Addr) :
    (makeWord f b m).toNat = (f.toNat * 8 + b.toNat) * 32768 + m.toNat := by
  have h1 : (makeWord f b m).toNat = (f ++ b).toNat <<< 15 ||| m.toNat := BitVec.toNat_append ..
  have h2 : (f ++ b).toNat = f.toNat <<< 3 ||| b.toNat := BitVec.toNat_append ..
  have hb := b.isLt
  have hm := m.isLt
  rw [h1, h2, ← Nat.shiftLeft_add_eq_or_of_lt hm, ← Nat.shiftLeft_add_eq_or_of_lt hb, Nat.shiftLeft_eq, Nat.shiftLeft_eq]

theorem opField_toNat (w : Word) : (opField w).toNat = w.toNat / 262144 := by
  have := w.isLt
  unfold opField
  rw [BitVec.extractLsb'_toNat, Nat.shiftRight_eq_div_pow]
  omega

theorem desigField_toNat (w : Word) : (desigField w).toNat = w.toNat / 32768 % 8 := by
  unfold desigField
  rw [BitVec.extractLsb'_toNat, Nat.shiftRight_eq_div_pow]

theorem addrField_toNat (w : Word) : (addrField w).toNat = w.toNat % 32768 := by
  unfold addrField
  rw [BitVec.extractLsb'_toNat, Nat.shiftRight_zero]

@[simp] theorem opField_makeWord (f : BitVec 6) (b : Desig) (m : Addr) : opField (makeWord f b m) = f := by
  apply BitVec.eq_of_toNat_eq
  have := b.isLt; have := m.isLt
  rw [opField_toNat, makeWord_toNat]; omega

@[simp] theorem desigField_makeWord (f : BitVec 6) (b : Desig) (m : Addr) : desigField (makeWord f b m) = b := by
  apply BitVec.eq_of_toNat_eq
  have := b.isLt; have := m.isLt
  rw [desigField_toNat, makeWord_toNat]; omega

@[simp] theorem addrField_makeWord (f : BitVec 6) (b : Desig) (m : Addr) : addrField (makeWord f b m) = m := by
  apply BitVec.eq_of_toNat_eq
  have := m.isLt
  rw [addrField_toNat, makeWord_toNat]; omega

/-- A word is made of its three fields. -/
@[simp] theorem makeWord_fields (w : Word) : makeWord (opField w) (desigField w) (addrField w) = w := by
  apply BitVec.eq_of_toNat_eq
  have := w.isLt
  rw [makeWord_toNat, opField_toNat, desigField_toNat, addrField_toNat]; omega

/-- Decoding goes through the three fields. -/
@[simp] theorem decode_makeWord (f : BitVec 6) (b : Desig) (m : Addr) :
    decode (makeWord f b m) = decodeFields f b m := by
  simp [decode]

end Sys2Proof
end

