-- ==== Sys2Proof/Laws/Outcome.lean ====
section
/-!
SUPPORT. What holds of every next state a result can answer, part by part: the shape in which a property of an
instruction follows from the same property of its parts.
-/

namespace Sys2Proof.Machine

/-- Every next state the result answers has the property. -/
def NextIn (r : Result) (P : State → Prop) : Prop := ∀ t, r = .next t → P t

variable {P Q : State → Prop}

theorem NextIn.next {s : State} (h : P s) : NextIn (.next s) P := by
  intro t ht; injection ht with ht; exact ht ▸ h

theorem NextIn.fault (f : Fault) : NextIn (.fault f) P := fun _ h => nomatch h

theorem NextIn.refused (e : Refusal) : NextIn (.refused e) P := fun _ h => nomatch h

theorem NextIn.mono {r : Result} (h : NextIn r P) (hpq : ∀ t, P t → Q t) : NextIn r Q :=
  fun t ht => hpq t (h t ht)

theorem NextIn.andThen {r : Result} {k : State → Result} (h : NextIn r fun s1 => NextIn (k s1) P) :
    NextIn (andThen r k) P := by
  intro t ht
  obtain ⟨s1, h1, h2⟩ := andThen_eq_next.1 ht
  exact h s1 h1 t h2

theorem NextIn.withRead {s : State} {a : Addr} {k : Word → Result} (h : ∀ w, NextIn (k w) P) :
    NextIn (s.withRead a k) P := by
  intro t ht
  obtain ⟨w, _, h2⟩ := State.withRead_eq_next.1 ht
  exact h w t h2

theorem NextIn.withResolved {s : State} {b : Desig} {m : Addr} {k : Desig → Addr → State → Result}
    (h : ∀ d m1, NextIn (k d m1 (s.substitute b d m1)) P) : NextIn (s.withResolved b m k) P := by
  intro t ht
  obtain ⟨d, m1, _, h2⟩ := State.withResolved_eq_next.1 ht
  exact h d m1 t h2

theorem NextIn.withIndex {s : State} {b : Desig} {m : Addr} {k : Option Index → Addr → State → Result}
    (h : ∀ d m1, NextIn (k (indexOf d) m1 (s.substitute b d m1)) P) : NextIn (s.withIndex b m k) P :=
  NextIn.withResolved h

theorem NextIn.withModified {s : State} {b : Desig} {m : Addr} {k : Addr → State → Result}
    (h : ∀ d m1, NextIn (k (s.modify d m1) (s.substitute b d m1)) P) : NextIn (s.withModified b m k) P := by
  intro t ht
  obtain ⟨d, m1, _, h2⟩ := State.withModified_eq_next.1 ht
  exact h d m1 t h2

theorem NextIn.withOperand {s : State} {b : Desig} {m : Addr} {k : Addr → Word → State → Result}
    (h : ∀ d m1 w, NextIn (k (s.modify d m1) w (s.substitute b d m1)) P) : NextIn (s.withOperand b m k) P := by
  intro t ht
  obtain ⟨d, m1, w, _, _, h2⟩ := State.withOperand_eq_next.1 ht
  exact h d m1 w t h2

/-- A store of a word, and of an address portion, answers the state with other storage, in canonical form where it was
so before. -/
theorem NextIn.writeWord {s : State} {a : Addr} {v : Word}
    (h : ∀ mem : Memory, (s.mem.wf = true → mem.wf = true) → P { s with mem := mem }) :
    NextIn (s.writeWord a v) P := by
  intro t ht
  have := State.writeWord_frame ht
  rw [this]
  exact h t.mem (State.writeWord_wf ht)

theorem NextIn.writeAddr {s : State} {a v : Addr}
    (h : ∀ mem : Memory, (s.mem.wf = true → mem.wf = true) → P { s with mem := mem }) :
    NextIn (s.writeAddr a v) P := by
  intro t ht
  have := State.writeAddr_frame ht
  rw [this]
  exact h t.mem (State.writeAddr_wf ht)

end Sys2Proof.Machine
end

