-- ==== Sys2Proof/Laws/PerInstr.lean ====
section
/-!
SUPPORT. The encoding of every instruction, one lemma for each: its word is made of an operation code, a designator and
an address that the map of R100 reads as that instruction.
-/

namespace Sys2Proof.Laws.Encoding

/-- The word of an instruction is made of three fields that decode to it (R91, R100). -/
def Statement (i : Instr) : Prop :=
  ∃ f b m, encode i = makeWord f b m ∧ decodeFields f b m = i

theorem fault00 (b : Desig) (m : Addr) : Statement (.fault00 b m) := ⟨_, _, _, rfl, rfl⟩
theorem ars (b : Desig) (k : Addr) : Statement (.ars b k) := ⟨_, _, _, rfl, rfl⟩
theorem qrs (b : Desig) (k : Addr) : Statement (.qrs b k) := ⟨_, _, _, rfl, rfl⟩
theorem lrs (b : Desig) (k : Addr) : Statement (.lrs b k) := ⟨_, _, _, rfl, rfl⟩
theorem enq (b : Desig) (y : Addr) : Statement (.enq b y) := ⟨_, _, _, rfl, rfl⟩
theorem als (b : Desig) (k : Addr) : Statement (.als b k) := ⟨_, _, _, rfl, rfl⟩
theorem qls (b : Desig) (k : Addr) : Statement (.qls b k) := ⟨_, _, _, rfl, rfl⟩
theorem lls (b : Desig) (k : Addr) : Statement (.lls b k) := ⟨_, _, _, rfl, rfl⟩
theorem ena (b : Desig) (y : Addr) : Statement (.ena b y) := ⟨_, _, _, rfl, rfl⟩
theorem ina (b : Desig) (y : Addr) : Statement (.ina b y) := ⟨_, _, _, rfl, rfl⟩
theorem lda (b : Desig) (m : Addr) : Statement (.lda b m) := ⟨_, _, _, rfl, rfl⟩
theorem lac (b : Desig) (m : Addr) : Statement (.lac b m) := ⟨_, _, _, rfl, rfl⟩
theorem add (b : Desig) (m : Addr) : Statement (.add b m) := ⟨_, _, _, rfl, rfl⟩
theorem sub (b : Desig) (m : Addr) : Statement (.sub b m) := ⟨_, _, _, rfl, rfl⟩
theorem ldq (b : Desig) (m : Addr) : Statement (.ldq b m) := ⟨_, _, _, rfl, rfl⟩
theorem lqc (b : Desig) (m : Addr) : Statement (.lqc b m) := ⟨_, _, _, rfl, rfl⟩
theorem sta (b : Desig) (m : Addr) : Statement (.sta b m) := ⟨_, _, _, rfl, rfl⟩
theorem stq (b : Desig) (m : Addr) : Statement (.stq b m) := ⟨_, _, _, rfl, rfl⟩
theorem ajp (j : Desig) (m : Addr) : Statement (.ajp j m) := ⟨_, _, _, rfl, rfl⟩
theorem qjp (j : Desig) (m : Addr) : Statement (.qjp j m) := ⟨_, _, _, rfl, rfl⟩
theorem mui (b : Desig) (m : Addr) : Statement (.mui b m) := ⟨_, _, _, rfl, rfl⟩
theorem dvi (b : Desig) (m : Addr) : Statement (.dvi b m) := ⟨_, _, _, rfl, rfl⟩
theorem ati (b : Desig) (m : Addr) : Statement (.ati b m) := ⟨_, _, _, rfl, rfl⟩
theorem qti (b : Desig) (m : Addr) : Statement (.qti b m) := ⟨_, _, _, rfl, rfl⟩
theorem skh (b : Desig) (y : Addr) : Statement (.skh b y) := ⟨_, _, _, rfl, rfl⟩
theorem skl (b : Desig) (y : Addr) : Statement (.skl b y) := ⟨_, _, _, rfl, rfl⟩
theorem ujp (b : Desig) (m : Addr) : Statement (.ujp b m) := ⟨_, _, _, rfl, rfl⟩
theorem urj (b : Desig) (m : Addr) : Statement (.urj b m) := ⟨_, _, _, rfl, rfl⟩
theorem sca (b : Desig) (k : Addr) : Statement (.sca b k) := ⟨_, _, _, rfl, rfl⟩
theorem scq (b : Desig) (k : Addr) : Statement (.scq b k) := ⟨_, _, _, rfl, rfl⟩
theorem ssk (b : Desig) (m : Addr) : Statement (.ssk b m) := ⟨_, _, _, rfl, rfl⟩
theorem ssh (b : Desig) (m : Addr) : Statement (.ssh b m) := ⟨_, _, _, rfl, rfl⟩
theorem sst (b : Desig) (m : Addr) : Statement (.sst b m) := ⟨_, _, _, rfl, rfl⟩
theorem scl (b : Desig) (m : Addr) : Statement (.scl b m) := ⟨_, _, _, rfl, rfl⟩
theorem scm (b : Desig) (m : Addr) : Statement (.scm b m) := ⟨_, _, _, rfl, rfl⟩
theorem ssu (b : Desig) (m : Addr) : Statement (.ssu b m) := ⟨_, _, _, rfl, rfl⟩
theorem ldl (b : Desig) (m : Addr) : Statement (.ldl b m) := ⟨_, _, _, rfl, rfl⟩
theorem adl (b : Desig) (m : Addr) : Statement (.adl b m) := ⟨_, _, _, rfl, rfl⟩
theorem sbl (b : Desig) (m : Addr) : Statement (.sbl b m) := ⟨_, _, _, rfl, rfl⟩
theorem stl (b : Desig) (m : Addr) : Statement (.stl b m) := ⟨_, _, _, rfl, rfl⟩
theorem eni (b : Desig) (y : Addr) : Statement (.eni b y) := ⟨_, _, _, rfl, rfl⟩
theorem ini (b : Desig) (y : Addr) : Statement (.ini b y) := ⟨_, _, _, rfl, rfl⟩
theorem xaq (m : Addr) : Statement (.xaq m) := ⟨_, _, _, rfl, rfl⟩
theorem cma (m : Addr) : Statement (.cma m) := ⟨_, _, _, rfl, rfl⟩
theorem cmq (m : Addr) : Statement (.cmq m) := ⟨_, _, _, rfl, rfl⟩
theorem fault52d3 (m : Addr) : Statement (.fault52d3 m) := ⟨_, _, _, rfl, rfl⟩
theorem fault52d4 (m : Addr) : Statement (.fault52d4 m) := ⟨_, _, _, rfl, rfl⟩
theorem fault52d5 (m : Addr) : Statement (.fault52d5 m) := ⟨_, _, _, rfl, rfl⟩
theorem fault52d6 (m : Addr) : Statement (.fault52d6 m) := ⟨_, _, _, rfl, rfl⟩
theorem indirect52 (m : Addr) : Statement (.indirect52 m) := ⟨_, _, _, rfl, rfl⟩
theorem lil (b : Desig) (m : Addr) : Statement (.lil b m) := ⟨_, _, _, rfl, rfl⟩
theorem isk (b : Desig) (y : Addr) : Statement (.isk b y) := ⟨_, _, _, rfl, rfl⟩
theorem ijp (b : Desig) (m : Addr) : Statement (.ijp b m) := ⟨_, _, _, rfl, rfl⟩
theorem inq (b : Desig) (y : Addr) : Statement (.inq b y) := ⟨_, _, _, rfl, rfl⟩
theorem sil (b : Desig) (m : Addr) : Statement (.sil b m) := ⟨_, _, _, rfl, rfl⟩
theorem xec (b : Desig) (m : Addr) : Statement (.xec b m) := ⟨_, _, _, rfl, rfl⟩
theorem sal (b : Desig) (m : Addr) : Statement (.sal b m) := ⟨_, _, _, rfl, rfl⟩
theorem tal (b : Desig) (m : Addr) : Statement (.tal b m) := ⟨_, _, _, rfl, rfl⟩
theorem pts (b : Desig) (m : Addr) : Statement (.pts b m) := ⟨_, _, _, rfl, rfl⟩
theorem eqs (b : Desig) (m : Addr) : Statement (.eqs b m) := ⟨_, _, _, rfl, rfl⟩
theorem ths (b : Desig) (m : Addr) : Statement (.ths b m) := ⟨_, _, _, rfl, rfl⟩
theorem meq (b : Desig) (m : Addr) : Statement (.meq b m) := ⟨_, _, _, rfl, rfl⟩
theorem mth (b : Desig) (m : Addr) : Statement (.mth b m) := ⟨_, _, _, rfl, rfl⟩
theorem rad (b : Desig) (m : Addr) : Statement (.rad b m) := ⟨_, _, _, rfl, rfl⟩
theorem rsb (b : Desig) (m : Addr) : Statement (.rsb b m) := ⟨_, _, _, rfl, rfl⟩
theorem rao (b : Desig) (m : Addr) : Statement (.rao b m) := ⟨_, _, _, rfl, rfl⟩
theorem rso (b : Desig) (m : Addr) : Statement (.rso b m) := ⟨_, _, _, rfl, rfl⟩
theorem exfSelect (y : Addr) : Statement (.exfSelect y) := ⟨_, _, _, rfl, rfl⟩
theorem exfActivate1 (y : Addr) : Statement (.exfActivate1 y) := ⟨_, _, _, rfl, rfl⟩
theorem exfActivate2 (y : Addr) : Statement (.exfActivate2 y) := ⟨_, _, _, rfl, rfl⟩
theorem exfActivate3 (y : Addr) : Statement (.exfActivate3 y) := ⟨_, _, _, rfl, rfl⟩
theorem exfActivate4 (y : Addr) : Statement (.exfActivate4 y) := ⟨_, _, _, rfl, rfl⟩
theorem exfActivate5 (y : Addr) : Statement (.exfActivate5 y) := ⟨_, _, _, rfl, rfl⟩
theorem exfActivate6 (y : Addr) : Statement (.exfActivate6 y) := ⟨_, _, _, rfl, rfl⟩
theorem exfSense (y : Addr) : Statement (.exfSense y) := ⟨_, _, _, rfl, rfl⟩
theorem slj (j : Desig) (m : Addr) : Statement (.slj j m) := ⟨_, _, _, rfl, rfl⟩
theorem sls (j : Desig) (m : Addr) : Statement (.sls j m) := ⟨_, _, _, rfl, rfl⟩
theorem fault77 (b : Desig) (m : Addr) : Statement (.fault77 b m) := ⟨_, _, _, rfl, rfl⟩

end Sys2Proof.Laws.Encoding
end

