-- ==== Sys2Proof/Laws/Search.lean ====
section
/-!
SUPPORT. One turn of the search loop (R200).
-/

namespace Sys2Proof.Machine

/-- With no word left to search the loop exits. -/
theorem State.searchLoop_zero (test : Word → Bool) (i : Index) (m : Addr) (s : State) :
    State.searchLoop test i m 0 s = .next s.exit := rfl

/-- A turn of the loop whose word reads as `w`. -/
theorem State.searchLoop_succ {test : Word → Bool} {i : Index} {m : Addr} {c : Nat} {s : State} {w : Word}
    (h : s.readWord (add15 m (BitVec.ofNat 15 c)) = .ok w) :
    State.searchLoop test i m (c + 1) s =
      if test w then .next (s.setB i (BitVec.ofNat 15 c)).skipExit
      else if c = 0 then .next (s.setB i (BitVec.ofNat 15 c)).exit
      else andThen (s.setB i (BitVec.ofNat 15 c)).searchGap fun s2 => State.searchLoop test i m c s2 :=
  State.withRead_ok (s := s.setB i (BitVec.ofNat 15 c)) h

/-- Where no buffer request is due, nothing happens between two words. -/
theorem State.searchGap_nil {s : State} (h : s.env.searchRequests = []) : s.searchGap = .next s := by
  unfold State.searchGap; rw [h]

end Sys2Proof.Machine
end

