-- ==== Sys2Proof/Laws/Select.lean ====
section
/-!
SUPPORT. Where an equipment can be selected on a channel, and where a transfer of it is served (R259).
-/

namespace Sys2Proof.Machine

theorem State.selectedOn_iff {s : State} {c : Channel} {e : Equipment} :
    s.chan.user.equipment c = some e ↔ s.SelectedOn c e := by
  unfold Users.equipment State.SelectedOn
  cases h : s.chan.user.get c with
  | none => simp
  | some x => obtain ⟨e', d⟩ := x; simp

/-- Whose replies come on a channel: the operation and the term of the statements agree. -/
theorem State.replier_eq_some {s : State} {c : Channel} {x : External} :
    s.replier c = some x ↔ s.RepliesOn c x := by
  unfold State.replier State.RepliesOn
  rw [← State.selectedOn_iff]
  split <;> simp_all

/-- An equipment that is selected for transfers on a channel is selected on it, or replies on it. -/
theorem State.connected_iff {s : State} {c : Channel} {x : External} :
    s.connected c x = true ↔ s.SelectedOn c (.external x) ∨ s.RepliesOn c x := by
  simp [State.connected, State.selectedOn_iff, State.replier_eq_some]

/-- Nothing replies on an output channel. -/
theorem State.not_repliesOn_output {s : State} {c : OutChannel} {x : External} : ¬s.RepliesOn c.channel x := by
  rintro ⟨h, -⟩
  cases c <;> exact nomatch h

/-- Another equipment keeps the channel from `e`: the operation and the term of the statements agree. -/
theorem State.usedByOther_iff {s : State} {c : Channel} {e : Equipment} :
    s.usedByOther c e = true ↔ s.KeptFrom c e := by
  have hn : s.chan.user.get c = none ↔ s.chan.user.equipment c = none := by simp [Users.equipment]
  unfold State.usedByOther State.userOf State.KeptFrom
  simp only [← State.selectedOn_iff, ← State.replier_eq_some, hn]
  cases s.chan.user.equipment c with
  | some x => simp
  | none => cases s.replier c <;> simp

/-- An equipment is selected exactly where no other keeps a channel it is selected on from it. -/
theorem State.selectEquipment_eq_next {s t v : State} {c : Channel} {both : Bool} {e : Equipment} :
    s.selectEquipment c both e t = .next v ↔
      (¬s.KeptFrom c e ∧ (both = true → ¬s.KeptFrom c.partner e)) ∧
        v = (t.setUsers (s.chan.user.select c both e)).exit := by
  unfold State.selectEquipment
  rw [← State.usedByOther_iff, ← State.usedByOther_iff]
  cases s.usedByOther c e <;> cases s.usedByOther c.partner e <;> cases both <;> simp [eq_comm]

/-- And else refused. -/
theorem State.selectEquipment_refused {s t : State} {c : Channel} {both : Bool} {e : Equipment}
    (h : s.KeptFrom c e ∨ (both = true ∧ s.KeptFrom c.partner e)) :
    s.selectEquipment c both e t = .refused .secondEquipment := by
  unfold State.selectEquipment
  rw [← State.usedByOther_iff, ← State.usedByOther_iff] at h
  rcases h with h | ⟨h, h'⟩
  · simp [h]
  · simp [h, h']

theorem State.readerMoves_iff {s : State} : s.readerMoves = true ↔ s.ReaderMoves := by
  simp [State.readerMoves, State.ReaderMoves, and_assoc]

theorem State.punchReady_iff {s : State} : s.punchReady = true ↔ s.PunchReady := by
  simp [State.punchReady, State.PunchReady, and_assoc]

/-- Another equipment is using the channel: the operation and the term of the statements agree. -/
theorem State.contested_iff {s : State} {c : Channel} {e : Equipment} :
    s.contested c e = true ↔ s.UsedBeside c e := by
  unfold State.contested State.UsedBeside
  simp only [Bool.or_eq_true, Bool.and_eq_true, decide_eq_true_eq, State.readerMoves_iff, or_assoc, and_assoc,
    ← State.selectedOn_iff]
  refine or_congr Iff.rfl (or_congr Iff.rfl ?_)
  cases s.chan.user.equipment c with
  | none => simp
  | some x => cases x <;> simp

/-- Where no other equipment is using the channel, a transfer asked for is made. -/
theorem State.alone_of_not {s : State} {c : Channel} {e : Equipment} (r : Result) (h : ¬s.UsedBeside c e) :
    s.alone c e r = r := if_neg (mt State.contested_iff.1 h)

/-- Where one is, it is refused. -/
theorem State.alone_of_used {s : State} {c : Channel} {e : Equipment} (r : Result) (h : s.UsedBeside c e) :
    s.alone c e r = .refused .secondEquipment := if_pos (State.contested_iff.2 h)

theorem Installation.selectedBy_eq_some {s : State} {y : Addr} {x : External} {both : Bool} :
    s.inst.selectedBy y = some (x, both) ↔ s.Selects y x both := by
  unfold Installation.selectedBy State.Selects
  cases listedSelect y <;> simp [eq_comm]

end Sys2Proof.Machine
end

