-- ==== Sys2Proof/Laws/Served.lean ====
section
/-!
SUPPORT. All that a buffer transfer can change (R241, R242, R253, R254), operation by operation.
-/

namespace Sys2Proof.Machine

/-- What a buffer transfer may change, and nothing else: storage, the channels' activity, the end-of-tape indicator, what
the equipment has been sent, the tape, the tape punched, and the count of free values. -/
def Served (s t : State) : Prop :=
  t = { s with
    mem := t.mem
    chan := { s.chan with active := t.chan.active }
    con := { s.con with readerEot := t.con.readerEot }
    env := { s.env with sent := t.env.sent, tape := t.env.tape, punched := t.env.punched }
    free := t.free }

theorem Served.refl (s : State) : Served s s := rfl

theorem Served.trans {s t v : State} (h : Served s t) (k : Served t v) : Served s v := by
  unfold Served at h k ⊢
  rw [h] at k
  exact k

theorem Served.storage (s : State) (m : Memory) : Served s { s with mem := m } := rfl

theorem State.advanceBuffer_served {s t : State} {c : Channel} {a : Addr} (h : s.advanceBuffer c a = .next t) :
    Served s t := by
  rw [State.advanceBuffer_ok] at h
  obtain rfl := Host.Outcome.next.inj h
  split <;> rfl

theorem State.inputStep_served {s t : State} {c : Channel} {w : Word} (h : s.inputStep c w = .next t) :
    Served s t := by
  obtain ⟨_, _, h⟩ := State.withRead_eq_next.1 h
  obtain ⟨s1, h1, h2⟩ := andThen_eq_next.1 h
  rw [State.writeWord_frame h1] at h2
  exact (Served.storage s s1.mem).trans (State.advanceBuffer_served h2)

theorem State.outputStep_served {s t : State} {c : Channel} {k : Word → State → Result}
    (h : s.outputStep c k = .next t) : ∃ w s1, Served s s1 ∧ k w s1 = .next t := by
  obtain ⟨_, _, h⟩ := State.withRead_eq_next.1 h
  obtain ⟨w, _, h⟩ := State.withRead_eq_next.1 h
  obtain ⟨s1, h1, h2⟩ := andThen_eq_next.1 h
  exact ⟨w, s1, State.advanceBuffer_served h1, h2⟩

theorem State.input_served {s t : State} {c : Channel} {d : Long} (h : s.input c d = .next t) : Served s t := by
  unfold State.input at h
  split at h
  · exact State.inputStep_served h
  · exact State.inputStep_served h
  · obtain ⟨s1, h1, h2⟩ := andThen_eq_next.1 h
    split at h2
    · exact (State.inputStep_served h1).trans (State.inputStep_served h2)
    · exact nomatch h2

theorem State.output_served {s t : State} {c : OutChannel} (h : s.output c = .next t) : Served s t := by
  unfold State.output at h
  split at h
  · obtain ⟨w, s1, h1, h2⟩ := State.outputStep_served h
    refine h1.trans ?_
    obtain rfl := Host.Outcome.next.inj h2
    split <;> rfl
  · obtain ⟨w, s1, h1, h2⟩ := State.outputStep_served h
    refine h1.trans ?_
    obtain rfl := Host.Outcome.next.inj h2
    split <;> rfl
  · obtain ⟨w1, s1, h1, h2⟩ := State.outputStep_served h
    split at h2
    · obtain ⟨w2, s2, h3, h4⟩ := State.outputStep_served h2
      refine (h1.trans h3).trans ?_
      obtain rfl := Host.Outcome.next.inj h4
      split <;> rfl
    · exact nomatch h2

theorem State.readerWord_served {s t : State} {rest : List Frame} {w : Word} (h : s.readerWord rest w = .next t) :
    Served s t :=
  Served.trans (t := s.setEnv { s.env with tape := rest }) rfl (State.inputStep_served h)

theorem State.readerStep_served {s t : State} (h : s.readerStep = .next t) : Served s t := by
  unfold State.readerStep at h
  split at h
  · exact State.readerWord_served h
  · split at h
    · exact State.readerWord_served h
    · obtain rfl := Host.Outcome.next.inj h
      rfl
  · split at h <;> obtain rfl := Host.Outcome.next.inj h <;> rfl
  · obtain rfl := Host.Outcome.next.inj h
    rfl

/-- A transfer of an equipment completes exactly where no other equipment is using the channel and it does. -/
theorem State.alone_eq_next {s t : State} {c : Channel} {e : Equipment} {r : Result} :
    s.alone c e r = .next t ↔ s.contested c e = false ∧ r = .next t := by
  unfold State.alone
  cases s.contested c e <;> simp

/-- A request of external equipment does what it does where it is selected, or where it is not, or nothing. -/
theorem State.byExternal_cases {s t : State} {c : Channel} {x : External} {r r0 : Result}
    (h : s.byExternal c x r r0 = .next t) : r = .next t ∨ r0 = .next t ∨ t = s := by
  unfold State.byExternal at h
  split at h
  · have h := (State.alone_eq_next.1 h).2
    split at h
    · exact .inl h
    · exact .inr (.inl h)
  · exact .inr (.inr (Host.Outcome.next.inj h).symm)

/-- What serving a request may do: a transfer, after which in 160 mode the equipment that took the word may be selected on
its output channel (R256). -/
def Taken (s t : State) : Prop :=
  Served s t ∨ ∃ (c : OutChannel) (x : External) (v : State), s.chan.mode.get c.channel.pair = .bits12 ∧ Served s v ∧
    t = v.setUsers (v.chan.user.set c.channel (some ⟨.external x, c.channel⟩))

/-- Nothing else than what a transfer may change, and the selections. -/
theorem Taken.frame {s t : State} (h : Taken s t) :
    t = { s with
      mem := t.mem
      chan := { s.chan with active := t.chan.active, user := t.chan.user }
      con := { s.con with readerEot := t.con.readerEot }
      env := { s.env with sent := t.env.sent, tape := t.env.tape, punched := t.env.punched }
      free := t.free } := by
  rcases h with h | ⟨c, x, v, -, h, rfl⟩ <;> unfold Served at h <;> rw [h]
  rfl

/-- The selection on a channel stays, or it is an output channel in 160 mode and external equipment is selected there. -/
theorem Taken.user {s t : State} (h : Taken s t) (c : Channel) :
    t.chan.user.get c = s.chan.user.get c ∨
      (c.isInput = false ∧ s.chan.mode.get c.pair = .bits12 ∧ ∃ x, t.chan.user.get c = some ⟨.external x, c⟩) := by
  rcases h with h | ⟨d, x, v, hm, h, rfl⟩ <;> unfold Served at h <;> rw [h]
  · exact .inl rfl
  · by_cases hc : c = d.channel
    · subst hc
      exact .inr ⟨by cases d <;> rfl, hm, x, Users.get_set_same _ _ _⟩
    · exact .inl (Users.get_set_other _ _ _ _ hc)

theorem State.selectByWord_taken {s t : State} {c : OutChannel} {x : External} (h : s.selectByWord c x = .next t) :
    Taken s t := by
  unfold State.selectByWord at h
  split at h
  · rename_i hm
    obtain ⟨_, _, h⟩ := State.withRead_eq_next.1 h
    obtain ⟨_, _, h⟩ := State.withRead_eq_next.1 h
    split at h
    · obtain ⟨v, h1, h2⟩ := andThen_eq_next.1 h
      exact .inr ⟨c, x, v, hm, State.output_served h1, (Host.Outcome.next.inj h2).symm⟩
    · exact .inl (Host.Outcome.next.inj h ▸ Served.refl s)
  · exact .inl (Host.Outcome.next.inj h ▸ Served.refl s)

/-- All that serving a request can do. -/
theorem State.serve_taken {s t : State} {x : Transfer} (h : s.serve x = .next t) : Taken s t := by
  unfold State.serve at h
  split at h
  · rcases State.byExternal_cases h with h | h | rfl
    · exact .inl (State.input_served h)
    · exact .inl (Host.Outcome.next.inj h ▸ Served.refl s)
    · exact .inl (Served.refl _)
  · rcases State.byExternal_cases h with h | h | rfl
    · exact .inl (State.output_served h)
    · exact State.selectByWord_taken h
    · exact .inl (Served.refl _)
  all_goals split at h
  · exact .inl (State.readerStep_served (State.alone_eq_next.1 h).2)
  · exact .inl (Host.Outcome.next.inj h ▸ Served.refl s)
  · exact .inl (State.output_served (State.alone_eq_next.1 h).2)
  · exact .inl (Host.Outcome.next.inj h ▸ Served.refl s)

end Sys2Proof.Machine
end

