-- ==== Sys2Proof/Tests/Slice0.lean ====
section
/-!
SUPPORT. Tests: ill-formed written instructions, a word of the spec's encoding for every constructor, one-step tests
whose expected results are the spec's examples (the rule is named at each), and for every statement with hypotheses a
concrete state and operands that meet them (`witness_<statement>`).
-/

namespace Sys2Proof.Tests

open Sys2Proof Sys2Proof.Machine

/-! ### Well-formedness (R91, R105) -/

theorem test_operation_code_of_seven_bits_refused :
    (Written.mk 0o100 0 0).wellFormed = false ∧ (Written.mk 0o77 0 0).wellFormed = true := by decide

theorem test_designator_of_four_bits_refused :
    (Written.mk 0o12 8 0).wellFormed = false ∧ (Written.mk 0o12 7 0).wellFormed = true := by decide

theorem test_address_of_sixteen_bits_refused :
    (Written.mk 0o12 0 0o100000).wellFormed = false ∧ (Written.mk 0o12 0 0o77777).wellFormed = true := by decide

/-- R105: `74 7 00011`, `75 0 00007`, `53 1 00005`. -/
theorem test_written_words :
    (Written.mk 0o74 7 0o00011).word = some 0o74700011 ∧ (Written.mk 0o75 0 0o00007).word = some 0o75000007 ∧
    (Written.mk 0o53 1 0o00005).word = some 0o53100005 := by decide

/-- A bit string that is no 24-bit word is refused (R90). -/
theorem test_decode_refuses_other_lengths :
    decodeTableWord 16 0 = none ∧ decodeTableWord 24 0o100000000 = none := by decide

/-! ### Decoding: words written out from R91 and R100, one for every constructor -/

theorem test_decode_transmission :
    decode 0o12000310 = .lda 0 0o310 ∧ decode 0o13000310 = .lac 0 0o310 ∧ decode 0o16000310 = .ldq 0 0o310 ∧
    decode 0o17000310 = .lqc 0 0o310 ∧ decode 0o20000002 = .sta 0 0o2 ∧ decode 0o21200400 = .stq 2 0o400 ∧
    decode 0o53200400 = .lil 2 0o400 ∧ decode 0o57300400 = .sil 3 0o400 ∧ decode 0o61100400 = .sal 1 0o400 ∧
    decode 0o10200004 = .ena 2 0o4 ∧ decode 0o04077775 = .enq 0 0o77775 ∧ decode 0o26400000 = .ati 4 0 ∧
    decode 0o27500000 = .qti 5 0 ∧ decode 0o50700500 = .eni 7 0o500 := by decide

theorem test_decode_arithmetic :
    decode 0o14100210 = .add 1 0o210 ∧ decode 0o15000300 = .sub 0 0o300 ∧ decode 0o24000200 = .mui 0 0o200 ∧
    decode 0o25000200 = .dvi 0 0o200 ∧ decode 0o62300000 = .tal 3 0 ∧ decode 0o11200020 = .ina 2 0o20 ∧
    decode 0o51100003 = .ini 1 0o3 ∧ decode 0o56000003 = .inq 0 0o3 := by decide

theorem test_decode_logical :
    decode 0o40000400 = .sst 0 0o400 ∧ decode 0o42000400 = .scm 0 0o400 ∧ decode 0o41000400 = .scl 0 0o400 ∧
    decode 0o43000400 = .ssu 0 0o400 ∧ decode 0o44000400 = .ldl 0 0o400 ∧ decode 0o45000400 = .adl 0 0o400 ∧
    decode 0o46000400 = .sbl 0 0o400 ∧ decode 0o47000400 = .stl 0 0o400 := by decide

theorem test_decode_shifts :
    decode 0o01000003 = .ars 0 0o3 ∧ decode 0o02000006 = .qrs 0 0o6 ∧ decode 0o03000006 = .lrs 0 0o6 ∧
    decode 0o07000006 = .lls 0 0o6 ∧ decode 0o06000006 = .qls 0 0o6 ∧ decode 0o05000003 = .als 0 0o3 ∧
    decode 0o34100030 = .sca 1 0o30 ∧ decode 0o35100060 = .scq 1 0o60 := by decide

theorem test_decode_replace_and_search :
    decode 0o70000400 = .rad 0 0o400 ∧ decode 0o71000400 = .rsb 0 0o400 ∧ decode 0o72000400 = .rao 0 0o400 ∧
    decode 0o73000400 = .rso 0 0o400 ∧ decode 0o64100400 = .eqs 1 0o400 ∧ decode 0o65100400 = .ths 1 0o400 ∧
    decode 0o66100400 = .meq 1 0o400 ∧ decode 0o67100400 = .mth 1 0o400 ∧ decode 0o63100400 = .pts 1 0o400 ∧
    decode 0o36000400 = .ssk 0 0o400 ∧ decode 0o37000400 = .ssh 0 0o400 ∧ decode 0o54100003 = .isk 1 0o3 ∧
    decode 0o30100003 = .skh 1 0o3 ∧ decode 0o31100003 = .skl 1 0o3 := by decide

theorem test_decode_jumps :
    decode 0o22302000 = .ajp 3 0o2000 ∧ decode 0o23002000 = .qjp 0 0o2000 ∧ decode 0o75502000 = .slj 5 0o2000 ∧
    decode 0o76002000 = .sls 0 0o2000 ∧ decode 0o32002000 = .ujp 0 0o2000 ∧ decode 0o55102000 = .ijp 1 0o2000 ∧
    decode 0o33000100 = .urj 0 0o100 ∧ decode 0o60000500 = .xec 0 0o500 := by decide

theorem test_decode_code_52_and_illegal :
    decode 0o52000000 = .xaq 0 ∧ decode 0o52100000 = .cma 0 ∧ decode 0o52200000 = .cmq 0 ∧
    decode 0o52300001 = .fault52d3 1 ∧ decode 0o52400001 = .fault52d4 1 ∧ decode 0o52500001 = .fault52d5 1 ∧
    decode 0o52600001 = .fault52d6 1 ∧ decode 0o52712345 = .indirect52 0o12345 ∧ decode 0o00712345 = .fault00 7 0o12345 ∧
    decode 0o77077777 = .fault77 0 0o77777 := by decide

theorem test_decode_external_function :
    decode 0o74000070 = .exfSelect 0o70 ∧ decode 0o74100400 = .exfActivate1 0o400 ∧
    decode 0o74200400 = .exfActivate2 0o400 ∧ decode 0o74300400 = .exfActivate3 0o400 ∧
    decode 0o74400400 = .exfActivate4 0o400 ∧ decode 0o74500400 = .exfActivate5 0o400 ∧
    decode 0o74600400 = .exfActivate6 0o400 ∧ decode 0o74700011 = .exfSense 0o11 := by decide

/-! ### One-step tests -/

/-- A running computer with P at 01000 and some words in storage. -/
def at1000 (words : List (Nat × Word)) : State :=
  { State.reset with
    p := 0o1000
    mem := words.foldl (fun m x => m.write x.1 x.2) []
    panel := { State.reset.panel with run := .running } }

/-- The instruction gives a next state of which `p` holds. -/
def gives (i : Instr) (s : State) (p : State → Bool) : Bool :=
  match exec i s with
  | .next t => p t
  | _ => false

/-- R131, the manual's indirect example. -/
theorem test_lda_indirect :
    gives (.lda 7 0o100) { at1000 [(0o100, 0o20600200), (0o201, 0o12345670)] with b := ⟨0, 0, 0, 0, 0, 1⟩ }
      (fun t => t.a == 0o12345670 && t.p == 0o1001 && t.u == 0o00600200) = true := by decide

/-- R132. -/
theorem test_lac : gives (.lac 0 0o310) (at1000 [(0o310, 5)]) (fun t => t.a == 0o77777772) = true := by decide

/-- R133. -/
theorem test_ldq :
    gives (.ldq 0 0o310) (at1000 [(0o310, 0o76543210)]) (fun t => t.q == 0o76543210 && t.a == 0) = true := by decide

/-- R134. -/
theorem test_lqc : gives (.lqc 0 0o310) (at1000 [(0o310, 5)]) (fun t => t.q == 0o77777772) = true := by decide

/-- R135. -/
theorem test_sta :
    gives (.sta 0 2) { at1000 [] with a := 0o1000 } (fun t => t.mem == [(2, 0o1000)] && t.p == 0o1001) = true := by
  decide

/-- R136. -/
theorem test_stq :
    gives (.stq 2 0o400) { at1000 [] with q := 0o77, b := ⟨0, 3, 0, 0, 0, 0⟩ } (fun t => t.mem == [(0o403, 0o77)])
      = true := by decide

/-- R137. -/
theorem test_xaq :
    gives (.xaq 0) { at1000 [] with a := 1, q := 0o77777776 } (fun t => t.a == 0o77777776 && t.q == 1) = true := by decide

/-- R141. -/
theorem test_lil :
    gives (.lil 2 0o400) (at1000 [(0o400, 0o76543210)]) (fun t => t.b == ⟨0, 0o43210, 0, 0, 0, 0⟩) = true := by decide

/-- R142. -/
theorem test_sil :
    gives (.sil 3 0o400) { at1000 [(0o400, 0o12345671)] with b := ⟨0, 0, 0o22, 0, 0, 0⟩ }
      (fun t => t.mem == [(0o400, 0o12300022)]) = true := by decide

/-- R142 with no register. -/
theorem test_sil_without_register :
    gives (.sil 0 0o400) (at1000 [(0o400, 0o12300000)]) (fun t => t.mem == [(0o400, 0o12377777)]) = true := by decide

/-- R143. -/
theorem test_sal :
    gives (.sal 1 0o400) { at1000 [(0o402, 0o12345671)] with a := 0o55500077, b := ⟨2, 0, 0, 0, 0, 0⟩ }
      (fun t => t.mem == [(0o402, 0o12300077)]) = true := by decide

/-- R144: the sign is extended, and B1 = 77776 subtracts one. -/
theorem test_ena :
    gives (.ena 0 0o40000) (at1000 []) (fun t => t.a == 0o77740000) = true ∧
    gives (.ena 1 5) { at1000 [] with b := ⟨0o77776, 0, 0, 0, 0, 0⟩ } (fun t => t.a == 4) = true := by decide

/-- R145. -/
theorem test_enq : gives (.enq 0 0o77775) (at1000 []) (fun t => t.q == 0o77777775 && t.a == 0) = true := by decide

/-- R146. -/
theorem test_ati :
    gives (.ati 4 0) { at1000 [] with a := 0o12345671 } (fun t => t.b == ⟨0, 0, 0, 0o45671, 0, 0⟩) = true := by decide

/-- R147. -/
theorem test_qti :
    gives (.qti 5 0) { at1000 [] with q := 0o76543210 } (fun t => t.b == ⟨0, 0, 0, 0, 0o43210, 0⟩) = true := by decide

/-- R148, with designator 7. -/
theorem test_eni_indirect :
    gives (.eni 7 0o500) (at1000 [(0o500, 0o00300044)]) (fun t => t.b == ⟨0, 0, 0o44, 0, 0, 0⟩) = true := by decide

/-- R150: no overflow, and the wrapped sum kept on overflow. -/
theorem test_add :
    gives (.add 1 0o210) { at1000 [(0o311, 4)] with a := 3, b := ⟨0o101, 0, 0, 0, 0, 0⟩ }
      (fun t => t.a == 7 && !t.ind.overflow) = true ∧
    gives (.add 0 0o300) { at1000 [(0o300, 1)] with a := 0o37777777 }
      (fun t => t.a == 0o40000000 && t.ind.overflow) = true := by decide

/-- R151. -/
theorem test_sub :
    gives (.sub 0 0o300) { at1000 [(0o300, 7)] with a := 5 } (fun t => t.a == 0o77777775 && !t.ind.overflow) = true ∧
    gives (.sub 0 0o300) { at1000 [] with a := 0o77777777 } (fun t => t.a == 0o77777777) = true := by decide

/-- R152: 3 times 5, and plus zero times minus 5. -/
theorem test_mui :
    gives (.mui 0 0o200) { at1000 [(0o200, 5)] with a := 3, q := 9 } (fun t => t.q == 0 && t.a == 0o17) = true ∧
    gives (.mui 0 0o200) (at1000 [(0o200, 0o77777772)]) (fun t => t.q == 0o77777777 && t.a == 0o77777777) = true := by
  decide

/-- R153: minus 17 by 5. -/
theorem test_dvi :
    gives (.dvi 0 0o200) { at1000 [(0o200, 5)] with q := 0o77777777, a := 0o77777756 }
      (fun t => t.a == 0o77777774 && t.q == 0o77777775 && !t.ind.divide) = true := by decide

/-- R153: a divide fault sets the indicator, and the program goes on. -/
theorem test_dvi_fault :
    gives (.dvi 0 0o200) { at1000 [(0o200, 2)] with q := 1 } (fun t => t.ind.divide && t.p == 0o1001) = true := by decide

/-- R154. -/
theorem test_tal :
    gives (.tal 3 0) { at1000 [] with a := 0o12345671 } (fun t => t.b == ⟨0, 0, 0o15, 0, 0, 0⟩) = true := by decide

/-- R161. -/
theorem test_ina :
    gives (.ina 2 0o20) { at1000 [] with a := 0o100, b := ⟨0, 0o10, 0, 0, 0, 0⟩ } (fun t => t.a == 0o130) = true ∧
    gives (.ina 0 0o77776) { at1000 [] with a := 0o40000000 } (fun t => t.a == 0o37777777 && t.ind.overflow) = true := by
  decide

/-- R162: the end-around carry. -/
theorem test_ini :
    gives (.ini 1 3) { at1000 [] with b := ⟨0o77776, 0, 0, 0, 0, 0⟩ } (fun t => t.b == ⟨2, 0, 0, 0, 0, 0⟩) = true := by
  decide

/-- R163: with the parameter at its recommended value no indicator is set. -/
theorem test_inq :
    gives (.inq 0 1) { at1000 [] with q := 0o37777777 } (fun t => t.q == 0o40000000 && !t.ind.overflow) = true := by
  decide

/-- A and Q and storage of the examples of R166 to R173. -/
def logical : State := { at1000 [(0o400, 0o00777000)] with a := 0o12345670, q := 0o77700077 }

/-- R166, R167, R168. -/
theorem test_sst_scm_scl :
    gives (.sst 0 0o400) logical (fun t => t.a == 0o12777670) = true ∧
    gives (.scm 0 0o400) logical (fun t => t.a == 0o12432670) = true ∧
    gives (.scl 0 0o400) logical (fun t => t.a == 0o12000670) = true := by decide

/-- R169, R170. -/
theorem test_ssu_ldl :
    gives (.ssu 0 0o400) logical (fun t => t.a == 0o00745600) = true ∧
    gives (.ldl 0 0o400) logical (fun t => t.a == 0o00700000) = true := by decide

/-- R171, R172. -/
theorem test_adl_sbl :
    gives (.adl 0 0o400) logical (fun t => t.a == 0o13245670) = true ∧
    gives (.sbl 0 0o400) logical (fun t => t.a == 0o11445670) = true := by decide

/-- R173, R174, R175. -/
theorem test_stl_cma_cmq :
    gives (.stl 0 0o400) logical (fun t => t.mem == [(0o400, 0o12300070)]) = true ∧
    gives (.cma 0) logical (fun t => t.a == 0o65432107) = true ∧
    gives (.cmq 0) { logical with q := 1 } (fun t => t.q == 0o77777776) = true := by decide

/-- R102: through an indirect word with designator 1 the instruction is CMA, with 3 an illegal code. -/
theorem test_code_52_indirect :
    gives (.indirect52 0o500) { at1000 [(0o500, 0o00100000)] with a := 0o12345670 } (fun t => t.a == 0o65432107) = true ∧
    gives (.indirect52 0o500) (at1000 [(0o500, 0o00300000)])
      (fun t => t.panel.run == .stopped && t.p == 0o1000) = true := by decide

/-- R181, R182. -/
theorem test_ars_qrs :
    gives (.ars 0 0o100) { at1000 [] with a := 0o40000012 } (fun t => t.a == 0o77777777 && t.ind.shift) = true ∧
    gives (.qrs 0 6) { at1000 [] with q := 0o41234567 } (fun t => t.q == 0o77412345 && !t.ind.shift) = true := by decide

/-- R183, R184. -/
theorem test_lrs_lls :
    gives (.lrs 0 6) { at1000 [] with a := 0o65432107, q := 0o01234567 }
      (fun t => t.a == 0o77654321 && t.q == 0o07012345) = true ∧
    gives (.lls 0 6) { at1000 [] with a := 0o65432107, q := 0o01234567 }
      (fun t => t.a == 0o43210701 && t.q == 0o23456765) = true := by decide

/-- R185, R186: 63 places set no indicator. -/
theorem test_qls_als :
    gives (.qls 0 6) { at1000 [] with q := 0o01234567 } (fun t => t.q == 0o23456701) = true ∧
    gives (.als 0 0o77) { at1000 [] with a := 0o40000012 } (fun t => t.a == 0o01240000 && !t.ind.shift) = true := by decide

/-- R188, R189. -/
theorem test_sca_scq :
    gives (.sca 1 0o30) { at1000 [] with a := 1 } (fun t => t.a == 0o20000000 && t.b.b1 == 2) = true ∧
    gives (.scq 1 0o60) { at1000 [] with a := 0o12, q := 0o34567012 }
      (fun t => t.a == 0o24713560 && t.q == 0o24000000 && t.b.b1 == 0o35) = true := by decide

/-- R196, R197. -/
theorem test_rad_rsb :
    gives (.rad 0 0o400) { at1000 [(0o400, 0o40000000)] with a := 0o40000000 }
      (fun t => t.a == 1 && t.mem == [(0o400, 1)] && t.ind.overflow) = true ∧
    gives (.rsb 0 0o400) { at1000 [(0o400, 3)] with a := 5 }
      (fun t => t.a == 0o77777775 && t.mem == [(0o400, 0o77777775)]) = true := by decide

/-- R198, R199. -/
theorem test_rao_rso :
    gives (.rao 0 0o400) (at1000 [(0o400, 0o77777776)]) (fun t => t.a == 0 && t.mem == []) = true ∧
    gives (.rso 0 0o400) (at1000 []) (fun t => t.a == 0o77777776 && t.mem == [(0o400, 0o77777776)]) = true := by decide

/-- The table of R201, with the count in B1. -/
def table (a q : Word) (n : Addr) : State :=
  { at1000 [(0o400, 7), (0o401, 0o77777777), (0o402, 5), (0o403, 0o40000001), (0o404, 5), (0o405, 0o11)] with
    a := a
    q := q
    b := ⟨n, 0, 0, 0, 0, 0⟩ }

/-- R201, R202: a hit at the offset, and no hit. -/
theorem test_eqs_ths :
    gives (.eqs 1 0o400) (table 0 0 6) (fun t => t.b.b1 == 1 && t.p == 0o1002) = true ∧
    gives (.eqs 1 0o400) (table 5 0 2) (fun t => t.b.b1 == 0 && t.p == 0o1001) = true ∧
    gives (.ths 1 0o400) (table 5 0 4) (fun t => t.b.b1 == 0 && t.p == 0o1002) = true ∧
    gives (.ths 1 0o400) (table 0o11 0 6) (fun t => t.b.b1 == 0 && t.p == 0o1001) = true := by decide

/-- R203, R204, R205. -/
theorem test_meq_mth_pts :
    gives (.meq 1 0o400) (table 1 3 3) (fun t => t.b.b1 == 2 && t.p == 0o1002) = true ∧
    gives (.mth 1 0o400) (table 1 3 6) (fun t => t.b.b1 == 1 && t.p == 0o1002) = true ∧
    gives (.pts 1 0o400) (table 5 0 6) (fun t => t.b.b1 == 4 && t.p == 0o1002) = true := by decide

/-- R207, R208. -/
theorem test_ssk_ssh :
    gives (.ssk 0 0o400) (at1000 [(0o400, 0o77777777)]) (fun t => t.p == 0o1002) = true ∧
    gives (.ssh 0 0o400) (at1000 [(0o400, 0o40000001)]) (fun t => t.p == 0o1002 && t.mem == [(0o400, 3)]) = true ∧
    gives (.ssh 0 0o400) (at1000 [(0o400, 0o37777777)])
      (fun t => t.p == 0o1001 && t.mem == [(0o400, 0o77777776)]) = true := by decide

/-- R210. -/
theorem test_isk :
    gives (.isk 1 3) { at1000 [] with b := ⟨3, 0, 0, 0, 0, 0⟩ } (fun t => t.b.b1 == 0 && t.p == 0o1002) = true ∧
    gives (.isk 1 0) { at1000 [] with b := ⟨0o77777, 0, 0, 0, 0, 0⟩ } (fun t => t.b.b1 == 0 && t.p == 0o1001) = true := by
  decide

/-- R211, R212. -/
theorem test_skh_skl :
    gives (.skh 1 3) { at1000 [] with b := ⟨2, 0, 0, 0, 0, 0⟩ } (fun t => t.p == 0o1002) = true ∧
    gives (.skh 1 0) { at1000 [] with b := ⟨0o77777, 0, 0, 0, 0, 0⟩ } (fun t => t.p == 0o1001) = true ∧
    gives (.skl 1 3) { at1000 [] with b := ⟨3, 0, 0, 0, 0, 0⟩ } (fun t => t.p == 0o1002) = true ∧
    gives (.skl 1 3) { at1000 [] with b := ⟨2, 0, 0, 0, 0, 0⟩ } (fun t => t.p == 0o1001) = true := by decide

/-- R218: negative zero is zero for j = 0 and negative for j = 7, a return jump. -/
theorem test_ajp :
    gives (.ajp 0 0o2000) { at1000 [] with a := 0o77777777 } (fun t => t.p == 0o2000) = true ∧
    gives (.ajp 7 0o2000) { at1000 [(0o2000, 0o32000000)] with a := 0o77777777 }
      (fun t => t.p == 0o2001 && t.mem == [(0o2000, 0o32001001)]) = true := by decide

/-- R219. -/
theorem test_qjp :
    gives (.qjp 1 0o2000) { at1000 [] with q := 0o77777777 } (fun t => t.p == 0o1001) = true ∧
    gives (.qjp 2 0o2000) { at1000 [] with q := 5 } (fun t => t.p == 0o2000) = true := by decide

/-- R220. -/
theorem test_slj :
    gives (.slj 5 0o2000) (at1000 []) (fun t => t.p == 0o1001) = true ∧
    gives (.slj 5 0o2000)
      { at1000 [] with panel := { State.reset.panel with run := .running, jumpKey := ⟨true, false, false⟩ } }
      (fun t => t.p == 0o2001 && t.mem == [(0o2000, 0o1001)]) = true := by decide

/-- R221: the stop with the jump pending, and the jump where the key is not set. -/
theorem test_sls :
    gives (.sls 0 0o2000) (at1000 []) (fun t => t.p == 0o1000 && t.panel.run == .stopped && t.panel.slsPending) = true ∧
    gives (.sls 3 0o2000) (at1000 []) (fun t => t.p == 0o2000 && t.panel.run == .running) = true := by decide

/-- R222, R223, R224. -/
theorem test_ujp_ijp_urj :
    gives (.ujp 1 0o2000) { at1000 [] with b := ⟨0o77776, 0, 0, 0, 0, 0⟩ } (fun t => t.p == 0o1777) = true ∧
    gives (.ijp 1 0o2000) { at1000 [] with b := ⟨1, 0, 0, 0, 0, 0⟩ } (fun t => t.p == 0o2000 && t.b.b1 == 0) = true ∧
    gives (.ijp 1 0o2000) (at1000 []) (fun t => t.p == 0o1001) = true ∧
    gives (.urj 0 0o100) { at1000 [] with p := 0o10 } (fun t => t.p == 0o101 && t.mem == [(0o100, 0o11)]) = true := by
  decide

/-- R225, R226(e): an XEC of an XEC of a skip. -/
theorem test_xec_chain :
    gives (.xec 0 0o500) (at1000 [(0o500, 0o60000600), (0o600, 0o36000700), (0o700, 0o40000000)])
      (fun t => t.p == 0o1002 && t.u == 0o36000700) = true := by decide

/-- R271. -/
theorem test_illegal_codes :
    gives (.fault00 7 0o400) (at1000 []) (fun t => t.panel.run == .stopped && t.p == 0o1000) = true ∧
    gives (.fault77 0 0) (at1000 []) (fun t => t.panel.run == .stopped && t.p == 0o1000) = true ∧
    gives (.fault52d3 0) (at1000 []) (fun t => t.panel.run == .stopped) = true ∧
    gives (.fault52d4 0) (at1000 []) (fun t => t.panel.run == .stopped) = true ∧
    gives (.fault52d5 0) (at1000 []) (fun t => t.panel.run == .stopped) = true ∧
    gives (.fault52d6 0) (at1000 []) (fun t => t.panel.run == .stopped) = true := by decide

/-- Channel 2 active, and used by the punch. -/
def punching : State :=
  { at1000 [(4, 0o500), (5, 0o400), (0o400, 0o12345671), (0o401, 6)] with
    chan := { State.reset.chan with
      active := ⟨false, true, false, false, false, false⟩
      user := ⟨none, some ⟨.punch, .c2⟩, none, none, none, none⟩ }
    con := { State.reset.con with punchSelected := true, punchMotor := true, punchEnabled := true } }

/-- The state with the equipment `e` selected on channel `c` by a code of that channel. -/
def withUser (s : State) (c : Channel) (e : Equipment) : State := s.setUsers (s.chan.user.set c (some ⟨e, c⟩))

/-- R245: 00070 clears the three indicators; R248: 10000 drops the reader. -/
theorem test_exf_select :
    gives (.exfSelect 0o70) { at1000 [] with ind := ⟨true, true, true, false, false⟩ }
      (fun t => t.ind == ⟨false, false, false, false, false⟩ && t.p == 0o1001) = true ∧
    gives (.exfSelect 0o10000) (at1000 []) (fun t => !t.con.readerSelected && t.con.readerEot) = true := by decide

/-- R259: the printer is refused on a channel that the punch keeps active; its other codes go to it (R255). -/
theorem test_exf_second_equipment :
    (match exec (.exfSelect 0o26000) punching with
      | .refused .secondEquipment => true
      | _ => false) = true ∧
    gives (.exfSelect 0o26007) punching (fun t => t.env.delivered == [0o26007] && t.chan == punching.chan) = true := by
  decide

/-- R239, R259: the typewriter is refused on a channel that the card adaptor keeps active, and so is its offer there, and
an offer to channel 1 while the reader moves. -/
theorem test_two_equipments :
    (let s := withUser ((at1000 [(10, 0o500), (11, 0o400)]).setActive .c5 true) .c5 (.external .cards1609)
     (match exec (.exfSelect 0o54220) s, s.serve (.offer .c5 .typewriter161 7) with
      | .refused .secondEquipment, .refused .secondEquipment => true
      | _, _ => false) = true) ∧
    (let s := (at1000 [(2, 0o500), (3, 0o400)]).setActive .c1 true
     (match (s.setCon { s.con with readerMotor := true, readerEot := false }).serve (.offer .c1 .typewriter161 7) with
      | .refused .secondEquipment => true
      | _ => false) = true) := by decide

/-- R259, item 27: with no equipment selected on channel 5 the typewriter's word does not arrive; after 54220 it does. -/
theorem test_unselected_equipment :
    (let s := (at1000 [(10, 0o500), (11, 0o400)]).setActive .c5 true
     (match s.serve (.offer .c5 .typewriter161 7) with
      | .next t => t == s
      | _ => false) = true ∧
     gives (.exfSelect 0o54220) s (fun t =>
       match t.serve (.offer .c5 .typewriter161 7) with
       | .next v => v.mem.read 0o400 == 7
       | _ => false) = true) := by decide

/-- R248: 54014 selects the card adaptor on channels 5 and 6; a clear of channel 5 drops its line on either, and a clear of
channel 6 does not. -/
theorem test_channel_clear_drops_the_lines :
    gives (.exfSelect 0o54014) (at1000 []) (fun t =>
      let s := t.setEnv { t.env with interrupt := ⟨true, false, false, false, false, true⟩ }
      gives (.exfSelect 0o50000) s (fun v => v.env.interrupt == ⟨true, false, false, false, false, false⟩) &&
        gives (.exfSelect 0o60000) s (fun v => v.env.interrupt.c6)) = true := by decide

/-- Channels 3 and 4 active in 160 mode, nothing selected, and a select code and a datum to be sent. -/
def mode160 (w : Word) : State :=
  { at1000 [(6, 0o410), (7, 0o400), (8, 0o510), (9, 0o500), (0o500, w)] with
    chan := { State.reset.chan with
      active := ⟨false, false, true, true, false, false⟩, mode := ⟨.bits24, .bits12, .bits24⟩ } }

/-- R256: a word with bit 23 set selects the printer, which then replies on channel 3; a word with bit 23 clear is not
taken. -/
theorem test_status_request :
    (match (mode160 0o40001234).serveAll [.request .c4 .printer1612, .offer .c3 .printer1612 0o4321] with
      | .next t => t.env.sent == [.word12 .c4 true 0o1234] && t.mem.read 0o400 == 0o4321
      | _ => false) = true ∧
    (match (mode160 0o1234).serveAll [.request .c4 .printer1612, .offer .c3 .printer1612 0o4321] with
      | .next t => t == mode160 0o1234
      | _ => false) = true := by decide

/-- R316: the selected punch takes a word (R254), but not with its motor turned off by 21240, nor with its SELECT switch
down. -/
theorem test_punch_needs_motor_and_switch :
    (match punching.serve .punch with
      | .next t => t.env.punched.length == 4
      | _ => false) = true ∧
    gives (.exfSelect 0o21240) punching (fun t =>
      match t.serve .punch with
      | .next v => v == t
      | _ => false) = true ∧
    (match punching.apply (.punchSwitch false) with
      | .next t =>
        (match t.serve .punch with
          | .next v => v == t
          | _ => false)
      | _ => false) = true := by decide

/-- R248, R255: 54004 selects the card adaptor on channels 5 and 6, and a clear of channel 5 drops both. -/
theorem test_select_on_both_channels :
    gives (.exfSelect 0o54004) (at1000 []) (fun t =>
      t.chan.user.c6 == some ⟨.external .cards1609, .c5⟩ &&
        gives (.exfSelect 0o50000) t (fun v => v.chan.user.c5 == none && v.chan.user.c6 == none)) = true := by decide

/-- R237, the manual's example: channel 1 inactive skips. -/
theorem test_exf_sense :
    gives (.exfSense 0o11) { at1000 [] with p := 0o110 } (fun t => t.p == 0o112) = true ∧
    gives (.exfSense 0o11) ({ at1000 [] with p := 0o110 }.setActive .c1 true) (fun t => t.p == 0o111) = true := by decide

/-- R238, both cases of its example. -/
theorem test_exf_activate1 :
    gives (.exfActivate1 0o400) (at1000 [(2, 0o500)]) (fun t => t.chan.active.c1 && t.mem.read 3 == 0o400) = true ∧
    gives (.exfActivate1 0o400) (at1000 [(2, 0o400)]) (fun t => !t.chan.active.c1 && t.mem.read 3 == 0o400) = true := by
  decide

/-- R238, R240: the control words of the other channels. -/
theorem test_exf_activate2_to_6 :
    gives (.exfActivate2 0o400) (at1000 [(4, 0o500)]) (fun t => t.chan.active.c2 && t.mem.read 5 == 0o400) = true ∧
    gives (.exfActivate3 0o400) (at1000 [(6, 0o500)]) (fun t => t.chan.active.c3 && t.mem.read 7 == 0o400) = true ∧
    gives (.exfActivate4 0o400) (at1000 [(8, 0o500)]) (fun t => t.chan.active.c4 && t.mem.read 9 == 0o400) = true ∧
    gives (.exfActivate5 0o400) (at1000 [(10, 0o500)]) (fun t => t.chan.active.c5 && t.mem.read 11 == 0o400) = true ∧
    gives (.exfActivate6 0o400) (at1000 [(12, 0o500)]) (fun t => t.chan.active.c6 && t.mem.read 13 == 0o400) = true := by
  decide

/-- The step runs the word that `withFetchWord` places. -/
theorem test_step_runs_the_placed_word :
    (match step (State.reset.withFetchWord 24 0o10000123) with
      | .next t => t.a == 0o123 && t.p == 1
      | _ => false) = true := by decide

/-! ### Witnesses: a state and operands that meet the hypotheses of each statement, clause by clause -/

/-- Words at 00400 (negative), 00401, and a chain 00100, 00101 that ends with designator 6 and address 00400; the
indirect words at 00110 to 00117 end at once with designators 0 to 6; 00500 names itself. -/
def wit : State :=
  { at1000 [(0o100, 0o00700101), (0o101, 0o20600400), (0o110, 0o400), (0o111, 0o00100400), (0o112, 0o00200400),
      (0o113, 0o00300400), (0o116, 0o00600400), (0o400, 0o40000001), (0o401, 5), (0o500, 0o00700500)] with
    a := 5
    q := 3
    b := ⟨1, 2, 3, 4, 5, 1⟩ }

/-- Designator 0, a register, and an indirect chain, each with an operand in storage: the hypotheses of every statement
about the classes M, Y, K and R. -/
theorem witness_operands :
    wit.Resolves 0 0o401 0 0o401 ∧ wit.Reads (wit.modify 0 0o401) 5 ∧ wit.Leads (wit.modify 0 0o401) 0o401 ∧
    wit.Resolves 1 0o400 1 0o400 ∧ wit.Reads (wit.modify 1 0o400) 5 ∧ wit.Leads (wit.modify 1 0o400) 0o401 ∧
    wit.Resolves 7 0o100 6 0o400 ∧ wit.Reads (wit.modify 6 0o400) 5 ∧ wit.Leads (wit.modify 6 0o400) 0o401 :=
  ⟨rfl, rfl, rfl, rfl, rfl, rfl, rfl, rfl, rfl⟩

/-- The last installed word is an operand too, through one's complement addition (R95). -/
theorem witness_last_word :
    wit.Resolves 1 0o17776 1 0o17776 ∧ wit.Leads (wit.modify 1 0o17776) 0o17777 ∧ wit.Reads 0o17777 0 := ⟨rfl, rfl, rfl⟩

theorem witness_LoadsComplete : wit.Resolves 7 0o100 6 0o400 ∧ wit.Reads (wit.modify 6 0o400) 5 := ⟨rfl, rfl⟩

theorem witness_StoresComplete : wit.Resolves 7 0o100 6 0o400 ∧ wit.Leads (wit.modify 6 0o400) 0o401 := ⟨rfl, rfl⟩

/-- Each designator that selects an operation of code 52 at the end of a chain. -/
theorem witness_Code52Completes :
    wit.Resolves 7 0o110 0 0o400 ∧ wit.Resolves 7 0o111 1 0o400 ∧ wit.Resolves 7 0o112 2 0o400 ∧
    wit.Resolves 7 0o113 3 0o400 ∧ wit.Resolves 7 0o116 6 0o400 ∧ 3 ≤ (3 : Desig).toNat ∧ 3 ≤ (6 : Desig).toNat :=
  ⟨rfl, rfl, rfl, rfl, rfl, by decide, by decide⟩

theorem witness_AddressStoresComplete :
    wit.Resolves 0 0o400 0 0o400 ∧ wit.Leads 0o400 0o400 ∧ wit.Resolves 6 0o400 6 0o400 ∧ indexOf 6 = some .b6 ∧
    wit.Leads (wit.modify 6 0o400) 0o401 := ⟨rfl, rfl, rfl, rfl, rfl⟩

theorem witness_EntersComplete :
    wit.Resolves 7 0o100 6 0o400 ∧ (0 : Nat) < 24 ∧ (14 : Nat) < 24 ∧ (23 : Nat) < 24 :=
  ⟨rfl, by decide, by decide, by decide⟩

theorem witness_IndexWritersComplete :
    wit.Resolves 0 0o400 0 0o400 ∧ wit.Resolves 7 0o100 6 0o400 ∧ indexOf 6 = some .b6 ∧ wit.Reads 0o400 0o40000001 ∧
    wit.Resolves 1 0o401 1 0o401 ∧ indexOf 1 = some .b1 ∧ wit.Reads 0o401 5 := ⟨rfl, rfl, rfl, rfl, rfl, rfl, rfl⟩

theorem witness_SumsComplete : wit.Resolves 1 0o400 1 0o400 ∧ wit.Reads (wit.modify 1 0o400) 5 := ⟨rfl, rfl⟩

/-- Both values of the parameter. -/
theorem witness_IncreasesComplete :
    wit.Resolves 2 5 2 5 ∧ wit.inst.inqSetsOverflow = false ∧
    { wit with inst := { wit.inst with inqSetsOverflow := true } }.Resolves 2 5 2 5 ∧
    { wit with inst := { wit.inst with inqSetsOverflow := true } }.inst.inqSetsOverflow = true := ⟨rfl, rfl, rfl, rfl⟩

theorem witness_MultiplyCompletes : wit.Resolves 0 0o401 0 0o401 ∧ wit.Reads (wit.modify 0 0o401) 5 := ⟨rfl, rfl⟩

/-- QA / 5 with Q = 0, and the divisors that fault: either zero. -/
theorem witness_DivideCompletes :
    { wit with q := 0 }.Resolves 0 0o401 0 0o401 ∧ { wit with q := 0 }.Reads 0o401 5 ∧
    divideFaults (joinLong 0 5) 5 = false ∧ wit.Resolves 0 0o402 0 0o402 ∧ wit.Reads 0o402 0 ∧
    divideFaults (joinLong 3 5) 0 = true ∧ divideFaults (joinLong 3 5) 0o77777777 = true :=
  ⟨rfl, rfl, by decide, rfl, rfl, by decide, by decide⟩

theorem witness_SelectivesComplete : wit.Resolves 0 0o401 0 0o401 ∧ wit.Reads (wit.modify 0 0o401) 5 := ⟨rfl, rfl⟩

/-- Counts 63 and 64, on either side of the shift fault. -/
theorem witness_ShiftsComplete :
    wit.Resolves 0 0o77 0 0o77 ∧ (wit.modify 0 0o77).toNat = 63 ∧ wit.Resolves 1 0o77 1 0o77 ∧
    (wit.modify 1 0o77).toNat = 64 := ⟨rfl, rfl, rfl, rfl⟩

theorem witness_ScalesComplete :
    wit.Resolves 0 0o30 0 0o30 ∧ wit.Resolves 3 0o30 3 0o30 ∧ indexOf 3 = some .b3 := ⟨rfl, rfl, rfl⟩

theorem witness_ReplacesComplete : wit.Resolves 1 0o400 1 0o400 ∧ wit.Leads (wit.modify 1 0o400) 0o401 := ⟨rfl, rfl⟩

/-- EQS with A = 5: over two words a hit at offset 1, the first examined, and one turn that hits; over one word, the
last, a miss; over no word; and over three words from 00377 on, the first one tested a miss, with a request due in the
gap. -/
theorem witness_SearchesComplete :
    wit.Resolves 2 0o400 2 0o400 ∧ indexOf 2 = some .b2 ∧ wit.env.searchRequests = [] ∧
    wit.SearchHits (fun w => w == wit.a || (isZero w && isZero wit.a)) 0o400 (wit.b.get .b2).toNat 1 ∧
    wit.SearchMisses (fun w => w == wit.a || (isZero w && isZero wit.a)) 0o400 (wit.b.get .b1).toNat ∧
    wit.SearchMisses (fun w => w == wit.a || (isZero w && isZero wit.a)) 0o400 0 := by
  refine ⟨rfl, rfl, rfl, ⟨by decide, ⟨5, rfl, by decide⟩, ?_⟩, ?_, ?_⟩
  · intro k h1 h2
    have : (wit.b.get .b2).toNat = 2 := rfl
    omega
  · intro k hk
    have : (wit.b.get .b1).toNat = 1 := rfl
    have : k = 0 := by omega
    subst this
    exact ⟨0o40000001, rfl, by decide⟩
  · intro k hk
    omega

/-- One turn of a search: a hit at offset 1, a miss at the last word, no word left, and a miss at offset 2 before a gap
in which a request is due. -/
theorem witness_SearchesComplete_turn :
    (wit.b.get .b2).toNat = 1 + 1 ∧ wit.Reads (add15 0o400 1) 5 ∧ (5 == wit.a) = true ∧
    (wit.b.get .b1).toNat = 0 + 1 ∧ wit.Reads (add15 0o400 0) 0o40000001 ∧ (0o40000001 == wit.a) = false ∧
    ({ wit with b := ⟨0, 0, 0, 0, 0, 0⟩ } : State).b.get .b1 = 0 ∧ wit.Resolves 3 0o400 3 0o400 ∧
    indexOf 3 = some .b3 ∧ (wit.b.get .b3).toNat = 2 + 1 ∧ wit.Reads (add15 0o400 2) 0 ∧ (0 == wit.a) = false ∧
    (isZero 0 && isZero wit.a) = false ∧
    ({ wit with env := { wit.env with searchRequests := [[.reader]] } } : State).env.searchRequests =
      [.reader] :: [] := by
  refine ⟨rfl, rfl, by decide, rfl, rfl, by decide, rfl, rfl, rfl, rfl, rfl, by decide, by decide, rfl⟩

theorem witness_SingleWordSearchesComplete :
    wit.Resolves 7 0o110 0 0o400 ∧ wit.Reads 0o400 0o40000001 ∧ wit.Resolves 0 0o401 0 0o401 ∧ wit.Reads 0o401 5 :=
  ⟨rfl, rfl, rfl, rfl⟩

/-- A negative and a positive word. -/
theorem witness_StorageTestsComplete :
    wit.Resolves 0 0o400 0 0o400 ∧ wit.Reads (wit.modify 0 0o400) 0o40000001 ∧
    wit.Leads (wit.modify 0 0o400) 0o400 ∧ wit.Resolves 1 0o400 1 0o400 ∧ wit.Leads (wit.modify 1 0o400) 0o401 :=
  ⟨rfl, rfl, rfl, rfl, rfl⟩

/-- B2 = 2 against 2 and 3, and no register. -/
theorem witness_IndexSkipsComplete :
    wit.Resolves 2 2 2 2 ∧ indexOf 2 = some .b2 ∧ wit.b.get .b2 = 2 ∧ wit.Resolves 2 3 2 3 ∧ wit.b.get .b2 ≠ 3 ∧
    wit.Resolves 0 3 0 3 := ⟨rfl, rfl, rfl, rfl, by decide, rfl⟩

/-- Each condition holding and failing, at j = 0, 3, 4 and 7; negative zero is zero and negative. -/
theorem witness_RegisterJumpsComplete :
    condition 0 wit.a = false ∧ condition 1 wit.a = true ∧ condition 2 wit.a = true ∧ condition 3 wit.a = false ∧
    condition 0 0o77777777 = true ∧ condition 3 0o77777777 = true ∧ condition 4 0 = true ∧ condition 5 wit.a = true ∧
    condition 7 0o40000000 = true ∧ (3 : Desig).toNat < 4 ∧ 4 ≤ (4 : Desig).toNat ∧ wit.Leads 0o400 0o400 := by
  refine ⟨?_, ?_, ?_, ?_, ?_, ?_, ?_, ?_, ?_, ?_, ?_, rfl⟩ <;> decide

/-- With every key clear j = 0 and j = 4 hold and j = 1, 3, 5, 7 do not; with key 3 set j = 3 and j = 7 hold. -/
theorem witness_SelectiveJumpCompletes :
    (0 : Desig).toNat % 4 = 0 ∧ (4 : Desig).toNat % 4 = 0 ∧ (3 : Desig).toNat % 4 = 3 ∧ (7 : Desig).toNat % 4 = 3 ∧
    wit.panel.jumpKey.k3 = false ∧
    { wit with panel := { wit.panel with jumpKey := ⟨false, false, true⟩ } }.panel.jumpKey.k3 = true ∧
    wit.Leads 0o400 0o400 := ⟨rfl, rfl, rfl, rfl, rfl, rfl, rfl⟩

theorem witness_SelectiveStopCompletes :
    (0 : Desig).toNat % 4 = 0 ∧ (3 : Desig).toNat < 4 ∧ (7 : Desig).toNat % 4 = 3 ∧ 4 ≤ (7 : Desig).toNat ∧
    wit.panel.stopKey.k3 = false ∧
    { wit with panel := { wit.panel with stopKey := ⟨false, false, true⟩ } }.panel.stopKey.k3 = true ∧
    wit.Leads 0o400 0o400 := ⟨rfl, by decide, rfl, by decide, rfl, rfl, rfl⟩

/-- The state with one event at the coming boundary. -/
def withEvent (s : State) (e : Event) : State :=
  s.setEnv { s.env with schedule := [{ events := [e], late := false, after := [] }] }

/-- Stopped inside `76 0 00400` (and inside `76 4 00400`), with START at the coming boundary. -/
def inSls (u : Word) : State :=
  { wit with
    u := u
    panel := { wit.panel with run := .stopped, slsPending := true }
    env := { wit.env with schedule := [{ events := [.start], late := false, after := [] }] } }

theorem witness_PendingJumpIsMadeAtStart :
    (inSls 0o76000400).panel.run = .stopped ∧ (inSls 0o76000400).panel.slsPending = true ∧
    (inSls 0o76000400).nextBoundary.events = [.start] ∧ (inSls 0o76000400).nextBoundary.after = [] ∧
    (desigField (inSls 0o76000400).u).toNat < 4 ∧ 4 ≤ (desigField (inSls 0o76400400).u).toNat ∧
    (inSls 0o76400400).Leads (addrField (inSls 0o76400400).u) 0o400 :=
  ⟨rfl, rfl, rfl, rfl, by decide, by decide, rfl⟩

/-- The same with STEP: the jump is made, and the computer is stopped again. -/
theorem witness_PendingJumpIsMadeAtStart_step :
    (withEvent (inSls 0o76000400) .step).panel.run = .stopped ∧
    (withEvent (inSls 0o76000400) .step).panel.slsPending = true ∧
    (withEvent (inSls 0o76000400) .step).nextBoundary.events = [.step] ∧
    (withEvent (inSls 0o76000400) .step).nextBoundary.after = [] ∧
    (desigField (withEvent (inSls 0o76000400) .step).u).toNat < 4 ∧
    (match step (withEvent (inSls 0o76000400) .step) with
      | .next t => t.p == 0o400 && t.panel.run == .stopped && !t.panel.slsPending
      | _ => false) = true := by decide

theorem witness_UnconditionalAndIndexJumpsComplete :
    wit.Resolves 1 0o400 1 0o400 ∧ wit.Leads (wit.modify 1 0o400) 0o401 ∧ indexOf 1 = some .b1 ∧ wit.b.get .b1 ≠ 0 ∧
    wit.Resolves 0 0o400 0 0o400 ∧ (at1000 []).Resolves 1 0o400 1 0o400 ∧ (at1000 []).b.get .b1 = 0 :=
  ⟨rfl, rfl, rfl, by decide, rfl, rfl, rfl⟩

/-- An XEC of ENA, of UJP, of SSK over a negative word, and of URJ. -/
def xecs : State :=
  at1000 [(0o300, 0o10000123), (0o301, 0o32002000), (0o302, 0o36000400), (0o303, 0o33000400), (0o400, 0o40000001)]

theorem witness_ExecuteCompletes :
    xecs.Resolves 0 0o300 0 0o300 ∧ xecs.Reads (xecs.modify 0 0o300) (makeWord 0o10 0 0o123) ∧
    xecs.Reads (xecs.modify 0 0o301) (makeWord 0o32 0 0o2000) ∧
    xecs.Reads (xecs.modify 0 0o302) (makeWord 0o36 0 0o400) ∧ xecs.Reads 0o400 0o40000001 ∧
    (0o40000001 : Word).getLsbD 23 = true ∧
    xecs.Reads (xecs.modify 0 0o303) (makeWord 0o33 0 0o400) ∧ xecs.Leads 0o400 0o400 :=
  ⟨rfl, rfl, rfl, rfl, rfl, by decide, rfl, rfl⟩

/-- An XEC of an XEC, and an XEC of itself. -/
theorem witness_ExecuteRunsTheTarget :
    (at1000 [(0o500, 0o60000600)]).Resolves 0 0o500 0 0o500 ∧ (at1000 [(0o500, 0o60000600)]).Reads 0o500 0o60000600 ∧
    (at1000 [(0o500, 0o60000500)]).Reads 0o500 0o60000500 := ⟨rfl, rfl, rfl⟩

theorem witness_DecodeAndEncodeAgree : (Instr.lda 7 0o77777).wellFormed = true := rfl

/-- A sum within the capacity, one just above it, and one just below it. -/
theorem witness_OverflowIsExcessOfCapacity :
    ovf24 0o37777776 1 (add24 0o37777776 1) = false ∧ ovf24 0o37777777 1 (add24 0o37777777 1) = true ∧
    ovf24 0o40000000 0o77777776 (add24 0o40000000 0o77777776) = true := by decide

/-- The largest quotient, the quotient 2^23, and a remainder that is not zero. -/
theorem witness_DivisionTruncates :
    divideFaults 0o37777777 1 = false ∧ divideFaults 0o40000000 1 = true ∧
    divideFaults 0o21 5 = false ∧ val24 (remainder24 0o21 5) ≠ 0 := by decide

theorem witness_ShiftsAreOnePlaceShifts : (23 : Nat) ≤ 23 ∧ (47 : Nat) ≤ 47 := by decide

theorem witness_ScalingNormalises :
    isZero 0 = true ∧ isZero 0o77777777 = true ∧ isZero 1 = false ∧ val48 0 = 0 ∧ val48 1 ≠ 0 ∧
    0 < (0o30 : Addr).toNat - (scaleA 1 0o30).2 ∧ 0 < (0o60 : Addr).toNat - (scaleAQ 1 0o60).2 := by decide

theorem witness_StorageReadsAsWritten : wit.Leads 0 0 ∧ wit.Leads 0o17777 0o17777 := ⟨rfl, rfl⟩

/-- The last installed address and the first that is not, under each policy. -/
theorem witness_AbsentStorageFollowsPolicy :
    (0o17777 : Addr).toNat < wit.inst.size.words ∧ wit.inst.size.words ≤ (0o20000 : Addr).toNat ∧
    wit.inst.oob = .fault ∧ { wit.inst with oob := .wrap }.oob = .wrap ∧
    { wit.inst with oob := .anyValue }.oob = .anyValue := by decide

theorem witness_ModifyAddsTheRegister :
    indexOf 1 = some .b1 ∧ indexOf 6 = some .b6 ∧ indexOf 0 = none ∧ indexOf 7 = none ∧
    (1 : Addr) ≠ 0 ∧ (1 : Addr) ≠ 0o77777 ∧ (0o77776 : Addr) ≠ 0o77777 := by decide

theorem witness_ResolveFollowsTheChain :
    (1 : Desig) ≠ 7 ∧ wit.Reads 0o100 0o00700101 ∧ wit.Resolves 7 0o100 6 0o400 := ⟨by decide, rfl, rfl⟩

theorem witness_EndlessChainIsEndless :
    wit.resolve 7 0o500 = .error .endlessIndirect ∧ wit.Reads 0o500 0o00700500 := ⟨rfl, rfl⟩

/-- The codes 04011, 04052 and 04072 with every channel inactive, and 04010 while the reader waits for its activate. -/
theorem witness_BufferModeSelectCompletes :
    (1 : BitVec 3) ≠ 0 ∧ wit.chan.active = ⟨false, false, false, false, false, false⟩ ∧ wit.con.readerArmed = false ∧
    efCode 0 (0o4000 + 8 * (7 : BitVec 3).toNat + BufMode.bits48.digit) = 0o04072 ∧
    (wit.selectReader false false).con.readerArmed = true := by decide

/-- An installation whose code 15077 selects its equipment 3 on channels 1 and 2. -/
def withOther : State :=
  { wit with inst := { wit.inst with otherSelects := [⟨0o15077, 3, true⟩] } }

/-- 26007 selects nothing, 26000 the printer on channel 2, 54004 the card adaptor on channels 5 and 6. -/
theorem witness_ExternalSelectIsDelivered :
    (0o26007 : Addr).toNat / 0o10000 = Channel.c2.number ∧ (0o26007 : Addr).toNat % 0o10000 ≠ 0 ∧
    ¬consoleCode 0o26007 ∧ (∀ x both, ¬punching.Selects 0o26007 x both) ∧
    ¬consoleCode 0o26000 ∧ wit.Selects 0o26000 .printer1612 false ∧
    ¬consoleCode 0o54004 ∧ wit.Selects 0o54004 .cards1609 true ∧
    withOther.Selects 0o15077 (.other 3) true := by
  refine ⟨by decide, by decide, ?_, ?_, ?_, .inl (by decide), ?_, .inl (by decide), .inr ⟨by decide, _, rfl, rfl, rfl⟩⟩
  · unfold consoleCode; decide
  · rintro x both (h | ⟨-, o, h, -⟩)
    · exact nomatch (show none = some (x, both) from h)
    · exact nomatch (show none = some o from h)
  · unfold consoleCode; decide
  · unfold consoleCode; decide

/-- The printer is kept from channel 2 by the punch, but not where it is itself selected, nor where the channel is
inactive; the card adaptor is kept from channel 6 alone. -/
theorem witness_ExternalSelectIsDelivered_users :
    punching.KeptFrom .c2 (.external .printer1612) ∧
    ¬(withUser punching .c2 (.external .printer1612)).KeptFrom .c2 (.external .printer1612) ∧
    ¬wit.KeptFrom .c2 (.external .printer1612) ∧ ¬wit.KeptFrom .c5 (.external .cards1609) ∧
    ¬wit.KeptFrom Channel.c5.partner (.external .cards1609) ∧
    ¬(withUser (wit.setActive .c6 true) .c6 (.external .printer1612)).KeptFrom .c5 (.external .cards1609) ∧
    (withUser (wit.setActive .c6 true) .c6 (.external .printer1612)).KeptFrom Channel.c5.partner (.external .cards1609) := by
  refine ⟨⟨rfl, _, .inl ⟨_, rfl⟩, nofun⟩, ?_, (nomatch ·.1), (nomatch ·.1), (nomatch ·.1), (nomatch ·.1),
    ⟨rfl, _, .inl ⟨_, rfl⟩, nofun⟩⟩
  rintro ⟨-, x, (⟨d, h⟩ | ⟨h, -⟩), hx⟩
  · exact hx (congrArg Selection.equipment (Option.some.inj h)).symm
  · exact nomatch h

/-- With the printer selected on channel 6 in 160 mode and nothing on the active channel 5, that one is kept for the
printer's replies. -/
theorem witness_ExternalSelectIsDelivered_replies :
    (let s := withUser (wit.setActive .c5 true) .c6 (.external .printer1612)
     { s with chan := { s.chan with mode := { s.chan.mode with p56 := .bits12 } } } : State).KeptFrom .c5
      (.external .cards1609) := ⟨rfl, _, .inr ⟨rfl, _, rfl, rfl, rfl, _, rfl⟩, nofun⟩

/-- 00000, 00072, 07777, 70000 and 11201 as selects; 00000 and 11202 as senses; a mode select after a reader select, one
for a pair with an active channel, and both refusals' conditions together: 24-bit, or another pair, after a reader
select with an active channel. -/
theorem witness_UnlistedCodesAreRefused :
    (0 : Addr).toNat ∉ internalSelectCodes ∧ (0o72 : Addr).toNat ∉ internalSelectCodes ∧
    (0o7777 : Addr).toNat < 0o10000 ∧ 0o70000 ≤ (0o70000 : Addr).toNat ∧
    (0o11201 : Addr).toNat ∉ consoleSelectCodes ∧ (0o11201 : Addr).toNat / 64 = 0o112 ∧
    (0 : Addr).toNat ∉ internalSenseCodes ∧ (0o11202 : Addr).toNat ∉ consoleSenseCodes ∧
    (1 : BitVec 3).getLsbD 0 = true ∧ (wit.selectReader false false).con.readerArmed = true ∧
    wit.con.readerArmed = false ∧ (wit.setActive .c6 true).pairsActive 4 = true ∧
    ((wit.selectReader false false).setActive .c2 true).con.readerArmed = true ∧
    ((wit.selectReader false false).setActive .c2 true).pairsActive 1 = true ∧ (4 : BitVec 3).getLsbD 0 = false ∧
    ((wit.selectReader false false).setActive .c6 true).pairsActive 4 = true := by decide

/-- Both modes of the reader. -/
theorem witness_ListedSensesComplete :
    wit.con.readerMode = .assembly ∧ { wit.con with readerMode := .character }.readerMode = .character := ⟨rfl, rfl⟩

/-- 32000 and 32001 (a listed pair), 30001 (no pair), with the condition present. -/
theorem witness_ExternalSenseIsAnswered :
    0o10000 ≤ (0o32000 : Addr).toNat ∧ (0o32001 : Addr).toNat < 0o70000 ∧ (0o32000 : Addr).toNat % 2 = 0 ∧
    pairedExternal 0o32001 = true ∧ pairedExternal 0o30001 = false ∧ (0o32001 : Addr).toNat % 2 = 1 ∧
    ¬consoleCode 0o32001 ∧ (0o32001 : Addr) - 1 ∈ (wit.setCondition 0o32000 true).env.conditions := by
  refine ⟨by decide, by decide, by decide, by decide, by decide, by decide, ?_, by decide⟩
  unfold consoleCode
  decide

/-- The terminal address 00500 of channel 3: given it, given another address while inactive, and while active. -/
theorem witness_ActivatesComplete :
    addressPart ((at1000 [(6, 0o500)]).word (2 * Channel.c3.number)) = 0o500 ∧ (0o400 : Addr) ≠ 0o500 ∧
    (at1000 [(6, 0o500)]).chan.active.get .c3 = false ∧
    ((at1000 [(6, 0o500)]).setActive .c3 true).chan.active.get .c3 = true := by decide

/-- Channel 1 at its last word, channel 2 with words to go; and an input whose address is its own control word. -/
theorem witness_BufferTransfersComplete :
    (at1000 [(2, 0o401), (3, 0o400)]).Leads (addressPart ((at1000 [(2, 0o401), (3, 0o400)]).word 3)) 0o400 ∧
    (at1000 [(3, 3)]).Leads (addressPart ((at1000 [(3, 3)]).word 3)) 3 ∧
    (at1000 [(4, 0o410), (5, 0o400), (0o400, 7)]).Reads
      (addressPart ((at1000 [(4, 0o410), (5, 0o400), (0o400, 7)]).word 5)) 7 ∧
    (at1000 []).chan.mode.get Channel.c2.pair = .bits24 := ⟨rfl, rfl, rfl, rfl⟩

/-- The state with the pair of channels 1 and 2 in another mode. -/
def inMode (s : State) (mode : BufMode) : State :=
  s.setChan { s.chan with mode := { s.chan.mode with p12 := mode } }

/-- Channel 1 active, `n` words from its end. -/
def filling (mode : BufMode) (n : Word) : State :=
  inMode ((at1000 [(2, 0o400 + n), (3, 0o400)]).setActive .c1 true) mode

/-- Input in the three modes; in 48-bit mode a first word after which the channel is still active, and one that ends the
buffer. -/
theorem witness_BufferTransfersComplete_input :
    (filling .bits24 2).chan.mode.get Channel.c1.pair = .bits24 ∧
    (filling .bits12 2).chan.mode.get Channel.c1.pair = .bits12 ∧
    (filling .bits48 2).chan.mode.get Channel.c1.pair = .bits48 ∧ (filling .bits48 2).inst.word48 = .upperFirst ∧
    (match (filling .bits48 2).inputStep .c1 5 with
      | .next t => t.chan.active.get .c1
      | _ => false) = true ∧
    (match (filling .bits48 1).inputStep .c1 5 with
      | .next t => !t.chan.active.get .c1
      | _ => false) = true := by decide

/-- Output in the other modes, to the punch and to other equipment, with words to go and at the last one. -/
theorem witness_BufferTransfersComplete_output :
    punching.Reads (addressPart (punching.word (2 * OutChannel.c2.channel.number + 1))) 0o12345671 ∧
    (inMode punching .bits12).chan.mode.get OutChannel.c2.channel.pair = .bits12 ∧
    (OutChannel.c2 = .c2 ∧ punching.con.punchSelected = true) ∧
    ¬(OutChannel.c2 = .c2 ∧ (punching.clearChannel .c2).con.punchSelected = true) ∧
    (inMode punching .bits48).chan.mode.get OutChannel.c2.channel.pair = .bits48 ∧
    (punching.counted .c2).chan.active.get .c2 = true ∧
    (punching.counted .c2).Reads (addressPart ((punching.counted .c2).word 5)) 6 ∧
    ({ punching with mem := [(4, 0o401), (5, 0o400)] } : State).chan.active.get .c2 = true ∧
    (({ punching with mem := [(4, 0o401), (5, 0o400)] } : State).counted .c2).chan.active.get .c2 = false :=
  ⟨rfl, rfl, by decide, by decide, rfl, rfl, rfl, rfl, rfl⟩

/-- In 160 mode a word with bit 23 set and one with it clear, at the current address of channel 4. -/
theorem witness_BufferTransfersComplete_select :
    (mode160 0o40001234).Reads (addressPart ((mode160 0o40001234).word (2 * OutChannel.c4.channel.number + 1))) 0o40001234 ∧
    (mode160 0o1234).Reads (addressPart ((mode160 0o1234).word (2 * OutChannel.c4.channel.number + 1))) 0o1234 ∧
    (0o40001234 : Word).getLsbD 23 = true ∧ (0o1234 : Word).getLsbD 23 = false ∧
    (mode160 0o40001234).chan.mode.get OutChannel.c4.channel.pair = .bits12 ∧
    (match (mode160 0o40001234).output .c4 with
      | .next t => t.env.sent == [.word12 .c4 true 0o1234]
      | _ => false) = true := ⟨rfl, rfl, by decide, by decide, rfl, by decide⟩

/-- Tapes: none, a frame in character mode, a first frame without the level-7 hole, one with it and too few after it, and
four of a word; the mode of the pair both ways. -/
theorem witness_BufferTransfersComplete_reader :
    wit.env.tape = [] ∧ ({ wit.con with readerMode := .character } : Console).readerMode = .character ∧
    wit.con.readerMode = .assembly ∧ (0o77 : Frame).getLsbD 6 = false ∧ (0o100 : Frame).getLsbD 6 = true ∧
    ([1, 2] : List Frame).length < 3 ∧ wit.chan.mode.p12 ≠ .bits12 ∧ (inMode wit .bits12).chan.mode.p12 = .bits12 ∧
    (0o12345670 : Word) = (0o112 : Frame).extractLsb' 0 6 ++ (0o34 : Frame).extractLsb' 0 6 ++
      (0o56 : Frame).extractLsb' 0 6 ++ (0o70 : Frame).extractLsb' 0 6 := by decide

/-- A running computer at a quiet boundary, with ENA at P. -/
theorem witness_StepRunsTheDecodedInstruction :
    (at1000 [(0o1000, 0o10000123)]).Fetches ∧ (at1000 [(0o1000, 0o10000123)]).Quiet ∧
    (at1000 [(0o1000, 0o10000123)]).Reads (at1000 [(0o1000, 0o10000123)]).p 0o10000123 ∧
    decode 0o10000123 = .ena 0 0o123 ∧ (Instr.ena 0 0o123).wellFormed = true :=
  ⟨⟨rfl, rfl, rfl⟩, ⟨rfl, rfl, rfl⟩, rfl, by decide, rfl⟩

/-- What follows an instruction, in a single step and outside one, still running and stopped by the instruction. -/
theorem witness_StepRunsTheDecodedInstruction_finish :
    (at1000 []).panel.stepOne = false ∧ (at1000 []).panel.run = .running ∧ (at1000 []).stop.panel.run = .stopped ∧
    (at1000 []).stop.panel.stepOne = false ∧ State.reset.stepKey.panel.stepOne = true ∧
    State.reset.stepKey.panel.run = .running ∧ State.reset.stepKey.stop.panel.stepOne = true ∧
    State.reset.stepKey.stop.panel.run = .stopped := by decide

/-- START and STEP in a stopped computer, with U set by the operator and not; STEP in a running one. -/
theorem witness_StepRunsTheDecodedInstruction_keys :
    State.reset.panel.run = .stopped ∧ State.reset.panel.slsPending = false ∧
    (withEvent State.reset .start).interruptDue = false ∧ (withEvent State.reset .start).nextBoundary.after = [] ∧
    (withEvent State.reset .start).nextBoundary.events = [.start] ∧ (withEvent State.reset .start).Reads 0 0 ∧
    (withEvent State.reset .step).nextBoundary.events = [.step] ∧ (withEvent State.reset .step).panel.uSet = false ∧
    ({ State.reset.panel with uSet := true } : Panel).uSet = true ∧ (withEvent (at1000 []) .step).panel.run = .running :=
  ⟨rfl, rfl, rfl, rfl, rfl, rfl, rfl, rfl, rfl, rfl⟩

/-- Stopped, with channel 1 active, the typewriter selected on it, and a word offered to it. -/
def buffering : State :=
  { at1000 [(2, 0o410), (3, 0o400)] with
    chan := { State.reset.chan with
      active := ⟨true, false, false, false, false, false⟩
      user := ⟨some ⟨.external .typewriter161, .c1⟩, none, none, none, none, none⟩ }
    panel := State.reset.panel
    env := { State.reset.env with
      schedule := [{ events := [.transfer (.offer .c1 .typewriter161 0o12345670)], late := false, after := [] }] } }

theorem witness_StoppedComputerServesBuffersOnly :
    State.reset.panel.run = .stopped ∧ State.reset.nextBoundary.events = [] ∧ buffering.panel.run = .stopped ∧
    buffering.nextBoundary.after = [] ∧ buffering.nextBoundary.events = [.transfer (.offer .c1 .typewriter161 0o12345670)] ∧
    buffering.chan.mode.get Channel.c1.pair = .bits24 ∧ buffering.chan.active.get .c1 = true ∧
    (buffering.SelectedOn Channel.c1 (.external .typewriter161) ∨ buffering.RepliesOn .c1 .typewriter161) ∧
    buffering.Leads (addressPart (buffering.word 3)) 0o400 := ⟨rfl, rfl, rfl, rfl, rfl, rfl, rfl, .inl ⟨_, rfl⟩, rfl⟩

/-- No other equipment is using channel 1 there: the reader stands still. -/
theorem witness_StoppedComputerServesBuffersOnly_alone :
    ¬buffering.UsedBeside Channel.c1 (.external .typewriter161) := by
  rintro (⟨-, h, -⟩ | ⟨h, -⟩ | ⟨x, ⟨d, h⟩, hx⟩)
  · exact absurd h.2.2.1 (by decide)
  · exact nomatch h
  · exact hx (congrArg Selection.equipment (Option.some.inj h))

/-- The printer, selected on channel 4 of a pair in 160 mode, replies on channel 3. -/
theorem witness_StoppedComputerServesBuffersOnly_reply :
    let s := withUser (mode160 0) .c4 (.external .printer1612)
    s.chan.active.get InChannel.c3.channel = true ∧ ¬s.UsedBeside InChannel.c3.channel (.external .printer1612) ∧
    s.RepliesOn InChannel.c3.channel .printer1612 := by
  refine ⟨rfl, ?_, rfl, rfl, _, rfl⟩
  rintro (⟨h, -⟩ | ⟨h, -⟩ | ⟨x, ⟨d, h⟩, -⟩)
  · exact nomatch h
  · exact nomatch h
  · exact nomatch h

/-- Several transfers at one boundary, of each kind, and active and inactive channels; a list of transfers that is
served. -/
theorem witness_StoppedComputerServesBuffersOnly_transfers :
    [Event.transfer (.offer .c3 .tape1607 7), .transfer (.request .c2 .printer1612), .transfer .reader,
        .transfer .punch] =
      [Transfer.offer .c3 .tape1607 7, .request .c2 .printer1612, .reader, .punch].map .transfer ∧
    buffering.chan.active.get .c1 = true ∧ buffering.chan.active.get .c3 = false ∧
    punching.chan.active.get .c2 = true ∧ punching.chan.active.get .c4 = false ∧
    punching.PunchReady ∧ ¬(punching.setCon { punching.con with punchMotor := false }).PunchReady ∧ buffering.con.readerMotor = false ∧
    (match buffering.serveAll [.offer .c1 .typewriter161 7, .offer .c3 .tape1607 7, .request .c2 .printer1612, .reader,
        .punch] with
      | .next t => t.mem.read 0o400 == 7 && t.mem.read 3 == 0o401
      | _ => false) = true := by
  unfold State.PunchReady
  decide

/-- Channel 1 active, and no equipment but the reader, which stands still, selected on it: a word that is offered does
not arrive. -/
theorem witness_StoppedComputerServesBuffersOnly_not_selected :
    (withUser buffering .c1 .reader).chan.active.get .c1 = true ∧
    ¬(withUser buffering .c1 .reader).UsedBeside .c1 (.external .typewriter161) ∧
    ¬(withUser buffering .c1 .reader).SelectedOn .c1 (.external .typewriter161) := by
  refine ⟨rfl, ?_, ?_⟩
  · rintro (⟨-, h, -⟩ | ⟨h, -⟩ | ⟨x, ⟨d, h⟩, -⟩)
    · exact absurd h.2.2.1 (by decide)
    · exact nomatch h
    · exact nomatch (congrArg Selection.equipment (Option.some.inj h) : Equipment.reader = .external x)
  · rintro ⟨d, h⟩
    exact nomatch (congrArg Selection.equipment (Option.some.inj h) : Equipment.reader = .external .typewriter161)

/-- Channel 1 active and the reader selected on it and moving. -/
def reading : State :=
  let s := withUser buffering .c1 .reader
  { s with con := { s.con with readerMotor := true, readerEot := false } }

/-- The reader moving alone, and beside a typewriter that offers; the punch alone, and beside a printer that asks; two
external equipments on one channel. -/
theorem witness_StoppedComputerServesBuffersOnly_beside :
    reading.ReaderMoves ∧ ¬reading.UsedBeside .c1 .reader ∧ reading.UsedBeside .c1 (.external .typewriter161) ∧
    ¬punching.UsedBeside .c2 .punch ∧ punching.UsedBeside .c2 (.external .printer1612) ∧
    buffering.UsedBeside .c1 (.external (.other 1)) := by
  refine ⟨⟨rfl, rfl, rfl, rfl⟩, ?_, .inl ⟨rfl, ⟨rfl, rfl, rfl, rfl⟩, nofun⟩, ?_, .inr (.inl ⟨rfl, rfl, nofun⟩),
    .inr (.inr ⟨_, ⟨_, rfl⟩, nofun⟩)⟩
  · rintro (⟨-, -, h⟩ | ⟨h, -⟩ | ⟨x, ⟨d, h⟩, -⟩)
    · exact h rfl
    · exact nomatch h
    · exact nomatch (congrArg Selection.equipment (Option.some.inj h) : Equipment.reader = .external x)
  · rintro (⟨h, -⟩ | ⟨-, -, h⟩ | ⟨x, ⟨d, h⟩, -⟩)
    · exact nomatch h
    · exact h rfl
    · exact nomatch (congrArg Selection.equipment (Option.some.inj h) : Equipment.punch = .external x)

/-- An arithmetic fault with its interrupt selected, and a scanner that is late or not; the interrupt routine begins
with ENA. -/
def requesting (late deferred : Bool) : State :=
  { at1000 [(0o17, 0o10000123), (0o1000, 0o10000456)] with
    ind := { State.reset.ind with overflow := true }
    intr := { State.reset.intr with selArith := true, deferred := deferred }
    env := { State.reset.env with schedule := [{ events := [], late := late, after := [] }] } }

theorem witness_InterruptIsEntered :
    (requesting false false).Fetches ∧ (requesting false false).nextBoundary.events = [] ∧
    (requesting false false).nextBoundary.after = [] ∧ (requesting false false).interruptRequest = true ∧
    (requesting false false).intr.lockout = false ∧ (requesting false false).nextBoundary.late = false ∧
    (requesting true true).intr.deferred = true ∧ (requesting false false).Reads 0o17 0o10000123 :=
  ⟨⟨rfl, rfl, rfl⟩, rfl, rfl, rfl, rfl, rfl, rfl, rfl⟩

/-- Stopped, with the request up and STEP at the coming boundary; U set by the operator and not. -/
def stepping (uSet : Bool) : State :=
  { withEvent (requesting false false) .step with panel := { State.reset.panel with uSet := uSet } }

/-- A clock that is selected and one that is not; pulses latched, and not latched with the interrupt locked out; a single
step with the request up. -/
theorem witness_InterruptIsEntered_clock_and_step :
    ({ wit.intr with selRtc := true } : InterruptControl).selRtc = true ∧ wit.intr.selRtc = false ∧
    wit.inst.rtcPulseLatched = true ∧ ({ wit.inst with rtcPulseLatched := false } : Installation).rtcPulseLatched = false ∧
    wit.panel.run = .running ∧ wit.intr.lockout = false ∧ ({ wit.intr with lockout := true } : InterruptControl).lockout = true ∧
    (stepping true).panel.run = .stopped ∧ (stepping true).panel.slsPending = false ∧
    (stepping true).nextBoundary.events = [.step] ∧ (stepping true).nextBoundary.after = [] ∧
    (stepping true).interruptRequest = true ∧ (stepping true).intr.lockout = false ∧ (stepping true).panel.uSet = true ∧
    (stepping false).panel.uSet = false ∧
    (match step (stepping false) with
      | .next t => t.a == 0o123 && t.p == 0o20 && t.panel.run == .stopped && t.mem.read 0o16 == 0o1000
      | _ => false) = true := by decide

/-- Stopped, with the request up and START at the coming boundary. -/
theorem witness_InterruptIsEntered_start :
    (withEvent (stepping false) .start).panel.run = .stopped ∧
    (withEvent (stepping false) .start).panel.slsPending = false ∧
    (withEvent (stepping false) .start).nextBoundary.events = [.start] ∧
    (withEvent (stepping false) .start).nextBoundary.after = [] ∧
    (withEvent (stepping false) .start).nextBoundary.late = false ∧
    (withEvent (stepping false) .start).interruptRequest = true ∧
    (withEvent (stepping false) .start).intr.lockout = false ∧
    (match step (withEvent (stepping false) .start) with
      | .next t => t.a == 0o123 && t.p == 0o20 && t.panel.run == .running && t.mem.read 0o16 == 0o1000
      | _ => false) = true := by decide

/-- Channel 2 at its last word with its interrupt selected; two boundaries, at the first of which the printer takes the
word after the scanner has looked, and at the second of which the scanner is late. -/
def ending : State :=
  { at1000 [(4, 0o401), (5, 0o400), (0o17, 0o10000123), (0o1000, 0o10000456)] with
    chan := { State.reset.chan with
      active := ⟨false, true, false, false, false, false⟩
      user := ⟨none, some ⟨.external .printer1612, .c2⟩, none, none, none, none⟩ }
    intr := { State.reset.intr with selInactive := ⟨false, true, false, false, false, false⟩ }
    env := { State.reset.env with
      schedule := [{ events := [], late := false, after := [.request .c2 .printer1612] },
        { events := [], late := true, after := [] }] } }

/-- R281: the condition that the printer's request makes hold at the first boundary is not put off at the second. -/
theorem test_request_after_the_scan_is_put_off_once :
    (match step ending with
      | .next t =>
        t.a == 0o456 && t.intr.deferred &&
          (match step t with
            | .next v => v.a == 0o123 && v.intr.lockout && v.mem.read 0o16 == 0o1001
            | _ => false)
      | _ => false) = true := by decide

/-- A boundary at whose end the condition holds, and two before which it held, one of them with a clock pulse and an
external master clear; the program goes on after each. -/
theorem witness_InterruptIsPutOffOnce_boundary :
    (match ending.passBoundary { events := [], late := false, after := [.request .c2 .printer1612] } with
      | .next t => t.panel.run == .running && !t.panel.slsPending && t.interruptDue
      | _ => false) = true ∧
    (requesting true true).intr.deferred = true ∧ ([] : List Event) = [].map .transfer ∧
    (match (requesting true true).passBoundary { events := [], late := true, after := [] } with
      | .next t => t.panel.run == .running && !t.panel.slsPending && t.p == 0o17
      | _ => false) = true ∧
    Event.clearInternal ∉ [Event.clockPulse, .clearExternal] ∧
    (match (requesting true true).passBoundary { events := [.clockPulse, .clearExternal], late := true, after := [] } with
      | .next t => t.panel.run == .running && !t.panel.slsPending && t.p == 0o17
      | _ => false) = true := by decide

theorem witness_InterruptIsPutOffOnce :
    (requesting true false).Fetches ∧ (requesting true false).nextBoundary.events = [] ∧
    (requesting true false).nextBoundary.after = [] ∧ (requesting true false).interruptDue = true ∧
    (requesting true false).nextBoundary.late = true ∧ (requesting true false).intr.deferred = false ∧
    (requesting true false).Reads (requesting true false).p 0o10000456 :=
  ⟨⟨rfl, rfl, rfl⟩, rfl, rfl, rfl, rfl, rfl, rfl⟩

/-- In the interrupt routine: at the exit word 00016, and at another. -/
def inRoutine (p : Addr) : State :=
  { at1000 [(0o16, 0o75000456), (0o1000, 0o10000123)] with
    p := p
    intr := { State.reset.intr with lockout := true } }

theorem witness_LockoutEndsAtWord16 :
    (inRoutine 0o16).Fetches ∧ (inRoutine 0o16).Quiet ∧ (inRoutine 0o16).Reads (inRoutine 0o16).p 0o75000456 ∧
    (match step (inRoutine 0o16) with
      | .next t => t.panel.run == .running && !t.intr.lockout && t.p == 0o456
      | _ => false) = true ∧
    (inRoutine 0o1000).Fetches ∧ (inRoutine 0o1000).Quiet ∧
    (match step (inRoutine 0o1000) with
      | .next t => t.intr.lockout
      | _ => false) = true :=
  ⟨⟨rfl, rfl, rfl⟩, ⟨rfl, rfl, rfl⟩, rfl, by decide, ⟨rfl, rfl, rfl⟩, ⟨rfl, rfl, rfl⟩, by decide⟩

/-- A state that meets the invariant and has a next state. -/
theorem witness_StepKeepsInvariant :
    (at1000 [(0o1000, 0o10000123)]).Inv ∧
    (match step (at1000 [(0o1000, 0o10000123)]) with
      | .next t => t.a == 0o123
      | _ => false) = true := by
  refine ⟨⟨rfl, rfl, rfl, by decide, by decide, rfl, by decide, ?_, nofun, by decide⟩, by decide⟩
  exact fun d h => ⟨(congrArg Selection.digit (Option.some.inj h)).symm, rfl⟩

/-- With an indicator set and U holding the instruction. -/
theorem witness_FaultIndicatorsAreSticky :
    { wit with u := encode (.add 0 0o401), ind := ⟨true, true, true, false, false⟩ }.u = encode (.add 0 0o401) ∧
    gives (.add 0 0o401) { wit with u := encode (.add 0 0o401), ind := ⟨true, true, true, false, false⟩ }
      (fun t => t.u != encode (.exfSelect 0o00070) && t.ind.divide && t.ind.shift && t.ind.overflow) = true :=
  ⟨rfl, by decide⟩

/-- An instruction that is no EXF, and one that is. -/
theorem witness_OnlyExternalFunctionsTouchControlState :
    wit.env.searchRequests = [] ∧
    gives (.add 0 0o401) { wit with u := encode (.add 0 0o401) } (fun t => opField t.u != 0o74) = true ∧
    gives (.exfSelect 0o01000) { wit with u := encode (.exfSelect 0o01000) }
      (fun t => opField t.u == 0o74 && t.intr.selRtc) = true := ⟨rfl, by decide, by decide⟩

/-- Every illegal code. -/
theorem witness_IllegalCodesStop :
    (∃ b m, Instr.fault00 0 0 = .fault00 b m ∨ Instr.fault00 0 0 = .fault77 b m) ∧
    (∃ b m, Instr.fault77 7 0 = .fault00 b m ∨ Instr.fault77 7 0 = .fault77 b m) ∧
    ∃ m, Instr.fault52d6 0 = .fault52d3 m ∨ Instr.fault52d6 0 = .fault52d4 m ∨ Instr.fault52d6 0 = .fault52d5 m ∨
      Instr.fault52d6 0 = .fault52d6 m :=
  ⟨⟨0, 0, .inl rfl⟩, ⟨7, 0, .inr rfl⟩, ⟨0, .inr (.inr (.inr rfl))⟩⟩

/-- The codes 11210 and 11217; channels that are inactive, active and used by the equipment selected, active and used by
no equipment, and active and used by another; a channel clear that drops a selection and one that leaves it. -/
theorem witness_ConsoleSelectsComplete :
    (0 : Nat) < 8 ∧ (7 : Nat) < 8 ∧ efCode 1 (0o1210 + 0) = 0o11210 ∧ efCode 1 (0o1210 + 7) = 0o11217 ∧
    ¬wit.KeptFrom .c1 .reader ∧ ¬wit.KeptFrom .c2 .punch ∧ ¬punching.KeptFrom .c2 .punch ∧
    ¬(wit.setActive .c2 true).KeptFrom .c2 .punch ∧
    (withUser punching .c2 (.external .printer1612)).KeptFrom .c2 .punch ∧
    (withUser (wit.setActive .c1 true) .c1 (.external .typewriter161)).KeptFrom .c1 .reader ∧
    (punching.chan.user.clear .c2).c2 = none ∧ (punching.chan.user.clear .c1).c2 = some ⟨.punch, .c2⟩ := by
  refine ⟨by decide, by decide, rfl, rfl, (nomatch ·.1), (nomatch ·.1), ?_, ?_, ⟨rfl, _, .inl ⟨_, rfl⟩, nofun⟩,
    ⟨rfl, _, .inl ⟨_, rfl⟩, nofun⟩, rfl, rfl⟩
  · rintro ⟨-, x, (⟨d, h⟩ | ⟨h, -⟩), hx⟩
    · exact hx (congrArg Selection.equipment (Option.some.inj h)).symm
    · exact nomatch h
  · rintro ⟨-, x, (⟨d, h⟩ | ⟨-, y, -, h, -⟩), -⟩
    · exact nomatch (show none = some (Selection.mk x d) from h)
    · exact nomatch h

/-- The state after both clears of a running machine. -/
theorem witness_MasterClearsAndReset :
    ∃ t : State, t = wit.internalMasterClear.externalMasterClear ∧ t.p = 0 ∧ t.mem = wit.mem :=
  ⟨wit.internalMasterClear.externalMasterClear, rfl, rfl, rfl⟩

end Sys2Proof.Tests
end

