-- ==== Sys2Proof/Proofs/Overflow.lean ====
section
/-!
One's complement addition and its overflow (spec/00_scope.md R9 to R12).  The idea: addition with end-around carry is
addition modulo 2^n - 1, and a value in the capacity of A is determined by its residue and by its sign.
-/

namespace Sys2Proof.Proofs.Overflow

open Sys2Proof Sys2Proof.Machine

/-! ### The sum as a number -/

/-- A subtractive accumulator answers negative zero for two negative zeros only: their sum as numbers is twice
2^n - 1, and any other pair that sums to a multiple of 2^n - 1 gives positive zero (R11). -/
theorem toNat_addOc {n : Nat} (x y : BitVec n) :
    (addOc x y).toNat =
      if x.toNat + y.toNat < 2 ^ n - 1 then x.toNat + y.toNat
      else if x.toNat + y.toNat = 2 ^ n - 1 then 0
      else x.toNat + y.toNat - (2 ^ n - 1) := by
  have hx := x.isLt
  have hy := y.isLt
  have allOnes_iff (z : BitVec n) : z = BitVec.allOnes n ↔ z.toNat = 2 ^ n - 1 := by
    rw [← BitVec.toNat_inj, BitVec.toNat_allOnes]
  simp only [addOc, allOnes_iff, BitVec.toNat_ofNat]
  rw [Nat.mod_eq_of_lt (by split_ifs <;> omega)]
  split_ifs <;> omega

theorem toNat_add24 (x y : Word) :
    (add24 x y).toNat =
      if x.toNat + y.toNat < 2 ^ 24 - 1 then x.toNat + y.toNat
      else if x.toNat + y.toNat = 2 ^ 24 - 1 then 0
      else x.toNat + y.toNat - (2 ^ 24 - 1) :=
  toNat_addOc x y

/-! ### The sign and the value of a word -/

theorem signBit_eq_true_iff (x : Word) : signBit x = true ↔ 2 ^ 23 ≤ x.toNat := by
  rw [signBit, ← BitVec.msb_eq_getLsbD_last, BitVec.msb_eq_decide, decide_eq_true_iff]

theorem signBit_eq_false_iff (x : Word) : signBit x = false ↔ x.toNat < 2 ^ 23 := by
  rw [← Bool.not_eq_true, signBit_eq_true_iff, not_le]

theorem val24_of_positive {x : Word} (h : signBit x = false) : val24 x = x.toNat := by
  simp [val24, h]

theorem val24_of_negative {x : Word} (h : signBit x = true) : val24 x = x.toNat - (2 ^ 24 - 1) := by
  have hlt := x.isLt
  rw [val24, if_pos h, cpl24, BitVec.toNat_not]
  omega

theorem val24_bounds_of_positive {x : Word} (h : signBit x = false) : 0 ≤ val24 x ∧ val24 x ≤ 2 ^ 23 - 1 := by
  have hlt := (signBit_eq_false_iff x).mp h
  rw [val24_of_positive h]
  omega

theorem val24_bounds_of_negative {x : Word} (h : signBit x = true) : -(2 ^ 23 - 1) ≤ val24 x ∧ val24 x ≤ 0 := by
  have hlt := x.isLt
  have hge := (signBit_eq_true_iff x).mp h
  rw [val24_of_negative h]
  omega

/-- The capacity of A: every word has a value from -(2^23 - 1) to 2^23 - 1 (R9, R10). -/
theorem val24_within_capacity (x : Word) : -(2 ^ 23 - 1) ≤ val24 x ∧ val24 x ≤ 2 ^ 23 - 1 := by
  cases h : signBit x with
  | false =>
    obtain ⟨hlo, hhi⟩ := val24_bounds_of_positive h
    omega
  | true =>
    obtain ⟨hlo, hhi⟩ := val24_bounds_of_negative h
    omega

/-! ### Addition modulo 2^24 - 1 -/

theorem val24_modEq_toNat (x : Word) : val24 x ≡ x.toNat [ZMOD 2 ^ 24 - 1] := by
  cases h : signBit x with
  | false => rw [val24_of_positive h]
  | true =>
    rw [val24_of_negative h]
    exact Int.sub_modulus_modEq_iff.mpr rfl

theorem toNat_add24_modEq (x y : Word) :
    ((add24 x y).toNat : Int) ≡ x.toNat + y.toNat [ZMOD 2 ^ 24 - 1] := by
  rw [toNat_add24, Int.ModEq]
  split_ifs <;> omega

/-- The end-around carry keeps the value modulo 2^24 - 1, overflow or not. -/
theorem val24_add24_modEq (x y : Word) : val24 (add24 x y) ≡ val24 x + val24 y [ZMOD 2 ^ 24 - 1] :=
  calc val24 (add24 x y)
    _ ≡ (add24 x y).toNat [ZMOD 2 ^ 24 - 1] := val24_modEq_toNat _
    _ ≡ x.toNat + y.toNat [ZMOD 2 ^ 24 - 1] := toNat_add24_modEq x y
    _ ≡ val24 x + val24 y [ZMOD 2 ^ 24 - 1] := ((val24_modEq_toNat x).add (val24_modEq_toNat y)).symm

/-- A sum that is nearer to the true sum than one modulus is the true sum. -/
theorem val24_add24_of_near {x y : Word} (hlo : -(2 ^ 24 - 1) < val24 (add24 x y) - (val24 x + val24 y))
    (hhi : val24 (add24 x y) - (val24 x + val24 y) < 2 ^ 24 - 1) :
    val24 (add24 x y) = val24 x + val24 y := by
  have hmod := val24_add24_modEq x y
  rw [Int.ModEq] at hmod
  omega

/-! ### Overflow -/

/-- R12's definition by the signs. -/
theorem ovf24_eq_true_iff (x y r : Word) :
    ovf24 x y r = true ↔ signBit x = signBit y ∧ signBit r ≠ signBit x := by
  simp [ovf24]

theorem ovf24_eq_false_iff (x y r : Word) :
    ovf24 x y r = false ↔ (signBit x = signBit y → signBit r = signBit x) := by
  simp [ovf24]

/-- Operands of opposite signs, or of the sign of their sum, keep the sum within one modulus of the true sum. -/
theorem val24_add24_of_not_ovf24 {x y : Word} (h : ovf24 x y (add24 x y) = false) :
    val24 (add24 x y) = val24 x + val24 y := by
  rw [ovf24_eq_false_iff] at h
  have hr := val24_within_capacity (add24 x y)
  cases hx : signBit x with
  | false =>
    have hxv := val24_bounds_of_positive hx
    cases hy : signBit y with
    | false =>
      have hyv := val24_bounds_of_positive hy
      have hrv := val24_bounds_of_positive ((h (hx.trans hy.symm)).trans hx)
      apply val24_add24_of_near <;> omega
    | true =>
      have hyv := val24_bounds_of_negative hy
      apply val24_add24_of_near <;> omega
  | true =>
    have hxv := val24_bounds_of_negative hx
    cases hy : signBit y with
    | false =>
      have hyv := val24_bounds_of_positive hy
      apply val24_add24_of_near <;> omega
    | true =>
      have hyv := val24_bounds_of_negative hy
      have hrv := val24_bounds_of_negative ((h (hx.trans hy.symm)).trans hx)
      apply val24_add24_of_near <;> omega

/-- Two positive operands with a negative sum: the true sum carried into the sign bit. -/
theorem capacity_lt_of_positives {x y : Word} (hx : signBit x = false) (hy : signBit y = false)
    (hr : signBit (add24 x y) = true) : 2 ^ 23 - 1 < val24 x + val24 y := by
  have hsum := toNat_add24 x y
  rw [val24_of_positive hx, val24_of_positive hy]
  rw [signBit_eq_false_iff] at hx hy
  rw [signBit_eq_true_iff] at hr
  split_ifs at hsum <;> omega

/-- Two negative operands with a positive sum: the end-around carry left the sign bit clear. -/
theorem lt_neg_capacity_of_negatives {x y : Word} (hx : signBit x = true) (hy : signBit y = true)
    (hr : signBit (add24 x y) = false) : val24 x + val24 y < -(2 ^ 23 - 1) := by
  have hsum := toNat_add24 x y
  rw [val24_of_negative hx, val24_of_negative hy]
  rw [signBit_eq_true_iff] at hx hy
  rw [signBit_eq_false_iff] at hr
  split_ifs at hsum <;> omega

theorem exceeds_capacity_of_ovf24 {x y : Word} (h : ovf24 x y (add24 x y) = true) :
    val24 x + val24 y < -(2 ^ 23 - 1) ∨ 2 ^ 23 - 1 < val24 x + val24 y := by
  obtain ⟨hxy, hr⟩ := (ovf24_eq_true_iff _ _ _).mp h
  cases hx : signBit x with
  | false =>
    rw [hx] at hxy hr
    exact .inr (capacity_lt_of_positives hx hxy.symm (Bool.eq_true_of_not_eq_false hr))
  | true =>
    rw [hx] at hxy hr
    exact .inl (lt_neg_capacity_of_negatives hx hxy.symm (Bool.eq_false_of_not_eq_true hr))

/-- A sum that does not overflow is a value of A, so the true sum it equals is within the capacity. -/
theorem ovf24_of_exceeds_capacity {x y : Word}
    (h : val24 x + val24 y < -(2 ^ 23 - 1) ∨ 2 ^ 23 - 1 < val24 x + val24 y) :
    ovf24 x y (add24 x y) = true := by
  by_contra hno
  have hval := val24_add24_of_not_ovf24 (Bool.eq_false_of_not_eq_true hno)
  obtain ⟨hlo, hhi⟩ := val24_within_capacity (add24 x y)
  omega

/-- Settles O5: without overflow the sum has the true value and so is within the capacity; with it the sign of the sum
tells on which side the true sum lies outside. -/
theorem overflowIsExcessOfCapacity : Obligations.OverflowIsExcessOfCapacity := fun x y =>
  ⟨ovf24_eq_true_iff x y (add24 x y), ⟨exceeds_capacity_of_ovf24, ovf24_of_exceeds_capacity⟩,
    val24_add24_of_not_ovf24⟩

end Sys2Proof.Proofs.Overflow
end

