-- ==== Sys2Proof/Proofs/WordFields.lean ====
section
/-!
The word as the number of its three fields (spec/30_encoding.md R91).
-/

namespace Sys2Proof.Proofs.WordFields

open Sys2Proof Sys2Proof.Machine

/-- R91's formula with each field at its own weight; `makeWord_toNat` nests the weights. -/
theorem toNat_makeWord_eq_weighted_sum (f : BitVec 6) (b : Desig) (m : Addr) :
    (makeWord f b m).toNat = f.toNat * 2 ^ 18 + b.toNat * 2 ^ 15 + m.toNat := by
  rw [makeWord_toNat]
  omega

/-- Settles O3: each field is a quotient or a remainder of the word by the weights of R91, and the weighted sum of the
fields is the word they make. -/
theorem wordIsThreeFields : Obligations.WordIsThreeFields :=
  ⟨fun w => ⟨opField_toNat w, desigField_toNat w, addrField_toNat w⟩, toNat_makeWord_eq_weighted_sum⟩

end Sys2Proof.Proofs.WordFields
end

