-- ==== Sys2Proof/Proofs/ConditionalJumps.lean ====
section
/-!
The conditional jumps AJP, QJP and SLJ (spec/48_jumps_and_stops.md R217 to R220).  The idea: each of them is the one jump
of R217 under a condition, so a jump has its two kinds described once and a condition its four selections.
-/

namespace Sys2Proof.Proofs.ConditionalJumps

open Sys2Proof Sys2Proof.Machine

/-! ### The jump of R217 -/

/-- The high bit of a designator is its weight of 4. -/
theorem desig_getLsbD_two (j : Desig) : j.getLsbD 2 = decide (4 ≤ j.toNat) := by
  revert j
  decide

theorem jumpKind_normal {s : State} {j : Desig} (m : Addr) (h : j.toNat < 4) :
    s.jumpKind j m = .next { s with p := m } := by
  have hbit : j.getLsbD 2 = false := by rw [desig_getLsbD_two, decide_eq_false_iff_not, not_le]; exact h
  rw [State.jumpKind, hbit]
  rfl

theorem jumpKind_return {s : State} {j : Desig} (m : Addr) (h : 4 ≤ j.toNat) : s.jumpKind j m = s.returnJump m := by
  rw [State.jumpKind, desig_getLsbD_two, decide_eq_true h, if_pos rfl]

/-- A return jump leaves the word after the instruction in the address portion at `m`, and goes on after `m` (R216). -/
theorem returnJump_stores_next {s : State} {m : Addr} {n : Nat} (h : s.Leads m n) :
    ∃ t, s.returnJump m = .next t ∧ s.StoredAt t n (withAddressPart (s.word n) s.next) ∧
      t = { s with mem := t.mem, p := m + 1 } :=
  ⟨_, State.returnJump_of_locate h, State.storedAt_write rfl, rfl⟩

/-! ### A jump under a condition -/

/-- What AJP, QJP and SLJ do alike, given their condition. -/
def jumpWhere (c : Bool) (j : Desig) (m : Addr) (s : State) : Result :=
  if c then s.jumpKind j m else .next s.exit

theorem exec_ajp (j : Desig) (m : Addr) (s : State) : exec (.ajp j m) s = jumpWhere (condition j s.a) j m s := rfl

theorem exec_qjp (j : Desig) (m : Addr) (s : State) : exec (.qjp j m) s = jumpWhere (condition j s.q) j m s := rfl

theorem exec_slj (j : Desig) (m : Addr) (s : State) :
    exec (.slj j m) s = jumpWhere (keyCondition j s.panel.jumpKey) j m s := rfl

/-- The exit, the normal jump and the return jump, each with its whole next state. -/
theorem jumpWhere_outcomes (c : Bool) (j : Desig) (m : Addr) (s : State) :
    (c = false → jumpWhere c j m s = .next { s with p := s.next }) ∧
    (c = true → j.toNat < 4 → jumpWhere c j m s = .next { s with p := m }) ∧
    (c = true → 4 ≤ j.toNat → ∀ n, s.Leads m n → ∃ t, jumpWhere c j m s = .next t ∧
      s.StoredAt t n (withAddressPart (s.word n) s.next) ∧ t = { s with mem := t.mem, p := m + 1 }) := by
  refine ⟨?_, ?_, ?_⟩
  · rintro rfl
    rfl
  · rintro rfl hj
    exact jumpKind_normal m hj
  · rintro rfl hj n hn
    obtain ⟨t, hjump, hstored, hframe⟩ := returnJump_stores_next hn
    exact ⟨t, (jumpKind_return m hj).trans hjump, hstored, hframe⟩

/-! ### The condition of AJP and QJP -/

/-- Either zero is zero. -/
theorem isZero_iff (r : Word) : isZero r = true ↔ r = 0 ∨ r = 0o77777777 := by
  rw [isZero, Bool.or_eq_true, beq_iff_eq, beq_iff_eq]
  rfl

theorem condition_zero_iff {j : Desig} (r : Word) (h : j.toNat % 4 = 0) :
    condition j r = true ↔ r = 0 ∨ r = 0o77777777 := by
  simp only [condition, h, isZero_iff]

theorem condition_not_zero_iff {j : Desig} (r : Word) (h : j.toNat % 4 = 1) :
    condition j r = true ↔ r ≠ 0 ∧ r ≠ 0o77777777 := by
  simp only [condition, h, Bool.not_eq_true', ← Bool.not_eq_true, isZero_iff, not_or, ne_eq]

theorem condition_plus_iff {j : Desig} (r : Word) (h : j.toNat % 4 = 2) :
    condition j r = true ↔ r.getLsbD 23 = false := by
  simp only [condition, h, signBit, Bool.not_eq_true']

theorem condition_minus_iff {j : Desig} (r : Word) (h : j.toNat % 4 = 3) :
    condition j r = true ↔ r.getLsbD 23 = true := by
  simp only [condition, h, signBit]

/-- Settles O33: AJP and QJP are `jumpWhere` on the condition of A and of Q. -/
theorem registerJumpsComplete : Obligations.RegisterJumpsComplete := by
  refine ⟨fun j r => ⟨condition_zero_iff r, condition_not_zero_iff r, condition_plus_iff r, condition_minus_iff r⟩, ?_⟩
  intro s j m i r hi
  have hexec : exec i s = jumpWhere (condition j r) j m s := by
    obtain ⟨rfl, rfl⟩ | ⟨rfl, rfl⟩ := hi
    · exact exec_ajp j m s
    · exact exec_qjp j m s
  rw [hexec]
  exact jumpWhere_outcomes (condition j r) j m s

/-! ### The condition of SLJ -/

/-- The jump key selected is set, or none is selected (R220). -/
theorem keyCondition_iff (j : Desig) (keys : Keys) :
    keyCondition j keys = true ↔
      j.toNat % 4 = 0 ∨ (j.toNat % 4 = 1 ∧ keys.k1 = true) ∨ (j.toNat % 4 = 2 ∧ keys.k2 = true) ∨
        (j.toNat % 4 = 3 ∧ keys.k3 = true) := by
  have hlt : j.toNat % 4 < 4 := Nat.mod_lt _ (by decide)
  unfold keyCondition
  interval_cases j.toNat % 4 <;> simp

/-- Settles O34: SLJ is `jumpWhere` on the condition of the jump keys. -/
theorem selectiveJumpCompletes : Obligations.SelectiveJumpCompletes := by
  intro s j m set
  have hset : keyCondition j s.panel.jumpKey = true ↔ set := keyCondition_iff j s.panel.jumpKey
  rw [exec_slj, ← hset, Bool.not_eq_true]
  exact jumpWhere_outcomes (keyCondition j s.panel.jumpKey) j m s

end Sys2Proof.Proofs.ConditionalJumps
end

