-- ==== Sys2Proof/Proofs/ListedSenses.lean ====
section
/-!
The listed sense codes (spec/49_external_function.md R246, R250, R252).  The idea: two codes are a pair when they name the
same condition, the even one by its presence and the odd one by its absence; what a pair does is said once for all pairs,
and each listed pair is looked up in `senseCode`.
-/

namespace Sys2Proof.Proofs.ListedSenses

open Sys2Proof Sys2Proof.Machine

/-! ### A sense code and its condition -/

theorem skipIf_eq (s : State) (c : Bool) : s.skipIf c = { s with p := if c then s.nextButOne else s.next } := by
  cases c <;> rfl

theorem exec_exfSense (y : Addr) (s : State) : exec (.exfSense y) s = execExfSense y s := rfl

/-- A code with a condition takes one of the two exits, and does nothing else (R237). -/
theorem exec_exfSense_of_senseCode {y : Addr} {c : SenseCondition} {present : Bool}
    (h : senseCode y = some (c, present)) (s : State) :
    exec (.exfSense y) s = .next { s with p := if s.holds c == present then s.nextButOne else s.next } := by
  rw [exec_exfSense, execExfSense, h, ← skipIf_eq]

/-! ### Pairs of sense codes -/

/-- The codes `even` and `odd` name the condition `c`, the first by its presence and the second by its absence. -/
def SensePair (even odd : Addr) (c : SenseCondition) : Prop :=
  senseCode even = some (c, true) ∧ senseCode odd = some (c, false)

/-- Both codes of a pair, each with its whole next state. -/
theorem SensePair.exec {even odd : Addr} {c : SenseCondition} (h : SensePair even odd c) (s : State) :
    Machine.exec (.exfSense even) s = .next { s with p := if s.holds c then s.nextButOne else s.next } ∧
    Machine.exec (.exfSense odd) s = .next { s with p := if s.holds c then s.next else s.nextButOne } := by
  obtain ⟨heven, hodd⟩ := h
  rw [exec_exfSense_of_senseCode heven, exec_exfSense_of_senseCode hodd]
  cases s.holds c
  · exact ⟨rfl, rfl⟩
  · exact ⟨rfl, rfl⟩

/-- The condition exists: the even code skips. -/
theorem SensePair.exec_of_holds {even odd : Addr} {c : SenseCondition} (h : SensePair even odd c) {s : State}
    (hc : s.holds c = true) :
    Machine.exec (.exfSense even) s = .next { s with p := s.nextButOne } ∧
    Machine.exec (.exfSense odd) s = .next { s with p := s.next } := by
  have hexec := h.exec s
  rwa [hc] at hexec

/-- It does not: the odd code skips. -/
theorem SensePair.exec_of_not_holds {even odd : Addr} {c : SenseCondition} (h : SensePair even odd c) {s : State}
    (hc : s.holds c = false) :
    Machine.exec (.exfSense even) s = .next { s with p := s.next } ∧
    Machine.exec (.exfSense odd) s = .next { s with p := s.nextButOne } := by
  have hexec := h.exec s
  rwa [hc] at hexec

/-! ### The listed pairs -/

/-- R246, 000C0 and 000C1: the channel's digit stands above the digit of the pair. -/
theorem sensePair_channelActive (c : Channel) :
    SensePair (efCode 0 (8 * c.number)) (efCode 0 (8 * c.number + 1)) (.channelActive c) := by
  cases c <;> exact ⟨by decide, by decide⟩

/-- R246, 00110 and 00111. -/
theorem sensePair_divide : SensePair 0o00110 0o00111 .divide := ⟨by decide, by decide⟩

/-- R246, 00120 and 00121. -/
theorem sensePair_shift : SensePair 0o00120 0o00121 .shift := ⟨by decide, by decide⟩

/-- R246, 00130 and 00131. -/
theorem sensePair_overflow : SensePair 0o00130 0o00131 .overflow := ⟨by decide, by decide⟩

/-- R250, 11200 and 11201. -/
theorem sensePair_readerEot : SensePair 0o11200 0o11201 .readerEot := ⟨by decide, by decide⟩

/-- R250, 11210 and 11211. -/
theorem sensePair_readerAssembly : SensePair 0o11210 0o11211 .readerAssembly := ⟨by decide, by decide⟩

/-- R252, 21200 and 21201. -/
theorem sensePair_punchOutOfTape : SensePair 0o21200 0o21201 .punchOutOfTape := ⟨by decide, by decide⟩

theorem holds_readerAssembly_of_assembly {s : State} (h : s.con.readerMode = .assembly) :
    s.holds .readerAssembly = true := by
  rw [State.holds, h]
  rfl

/-- The reader has two modes: character mode is the absence of assembly mode (R250). -/
theorem holds_readerAssembly_of_character {s : State} (h : s.con.readerMode = .character) :
    s.holds .readerAssembly = false := by
  rw [State.holds, h]
  rfl

/-- Settles O46: each line of the statement is one listed pair. -/
theorem listedSensesComplete : Obligations.ListedSensesComplete := by
  intro s
  obtain ⟨hdivide, hnoDivide⟩ := sensePair_divide.exec s
  obtain ⟨hshift, hnoShift⟩ := sensePair_shift.exec s
  obtain ⟨hoverflow, hnoOverflow⟩ := sensePair_overflow.exec s
  obtain ⟨heot, hnoEot⟩ := sensePair_readerEot.exec s
  obtain ⟨hpunch, hnoPunch⟩ := sensePair_punchOutOfTape.exec s
  exact ⟨fun c => (sensePair_channelActive c).exec s, hdivide, hnoDivide, hshift, hnoShift, hoverflow, hnoOverflow,
    heot, hnoEot, fun h => sensePair_readerAssembly.exec_of_holds (holds_readerAssembly_of_assembly h),
    fun h => sensePair_readerAssembly.exec_of_not_holds (holds_readerAssembly_of_character h), hpunch, hnoPunch⟩

end Sys2Proof.Proofs.ListedSenses
end

section
/-!
Results one after another.
-/

namespace Sys2Proof.Proofs.Sequencing

open Sys2Proof Sys2Proof.Machine

theorem andThen_assoc (r : Result) (k k' : State → Result) :
    andThen (andThen r k) k' = andThen r fun s => andThen (k s) k' := by
  cases r <;> rfl

theorem andThen_return (r : Result) : andThen r .next = r := by
  cases r <;> rfl

/-- What follows a result need agree on the state it answers only. -/
theorem andThen_congr {r : Result} {k k' : State → Result} (h : ∀ t, r = .next t → k t = k' t) :
    andThen r k = andThen r k' := by
  cases r with
  | next t => exact h t rfl
  | fault f => rfl
  | refused e => rfl

end Sys2Proof.Proofs.Sequencing
end

section
/-!
Decoding and encoding (spec/30_encoding.md R91, R100).  The idea: a word is its three fields, each row of the map of R100
gives back the fields it was found by, and each instruction's word is made of fields of its own row.
-/

namespace Sys2Proof.Proofs.Encoding

open Sys2Proof Sys2Proof.Machine

/-! ### From the instruction to its word and back -/

/-- The rows of R100, one law for each. -/
theorem encode_made_of_fields : ∀ i : Instr, Laws.Encoding.Statement i
  | .fault00 b m => Laws.Encoding.fault00 b m
  | .ars b k => Laws.Encoding.ars b k
  | .qrs b k => Laws.Encoding.qrs b k
  | .lrs b k => Laws.Encoding.lrs b k
  | .enq b y => Laws.Encoding.enq b y
  | .als b k => Laws.Encoding.als b k
  | .qls b k => Laws.Encoding.qls b k
  | .lls b k => Laws.Encoding.lls b k
  | .ena b y => Laws.Encoding.ena b y
  | .ina b y => Laws.Encoding.ina b y
  | .lda b m => Laws.Encoding.lda b m
  | .lac b m => Laws.Encoding.lac b m
  | .add b m => Laws.Encoding.add b m
  | .sub b m => Laws.Encoding.sub b m
  | .ldq b m => Laws.Encoding.ldq b m
  | .lqc b m => Laws.Encoding.lqc b m
  | .sta b m => Laws.Encoding.sta b m
  | .stq b m => Laws.Encoding.stq b m
  | .ajp j m => Laws.Encoding.ajp j m
  | .qjp j m => Laws.Encoding.qjp j m
  | .mui b m => Laws.Encoding.mui b m
  | .dvi b m => Laws.Encoding.dvi b m
  | .ati b m => Laws.Encoding.ati b m
  | .qti b m => Laws.Encoding.qti b m
  | .skh b y => Laws.Encoding.skh b y
  | .skl b y => Laws.Encoding.skl b y
  | .ujp b m => Laws.Encoding.ujp b m
  | .urj b m => Laws.Encoding.urj b m
  | .sca b k => Laws.Encoding.sca b k
  | .scq b k => Laws.Encoding.scq b k
  | .ssk b m => Laws.Encoding.ssk b m
  | .ssh b m => Laws.Encoding.ssh b m
  | .sst b m => Laws.Encoding.sst b m
  | .scl b m => Laws.Encoding.scl b m
  | .scm b m => Laws.Encoding.scm b m
  | .ssu b m => Laws.Encoding.ssu b m
  | .ldl b m => Laws.Encoding.ldl b m
  | .adl b m => Laws.Encoding.adl b m
  | .sbl b m => Laws.Encoding.sbl b m
  | .stl b m => Laws.Encoding.stl b m
  | .eni b y => Laws.Encoding.eni b y
  | .ini b y => Laws.Encoding.ini b y
  | .xaq m => Laws.Encoding.xaq m
  | .cma m => Laws.Encoding.cma m
  | .cmq m => Laws.Encoding.cmq m
  | .fault52d3 m => Laws.Encoding.fault52d3 m
  | .fault52d4 m => Laws.Encoding.fault52d4 m
  | .fault52d5 m => Laws.Encoding.fault52d5 m
  | .fault52d6 m => Laws.Encoding.fault52d6 m
  | .indirect52 m => Laws.Encoding.indirect52 m
  | .lil b m => Laws.Encoding.lil b m
  | .isk b y => Laws.Encoding.isk b y
  | .ijp b m => Laws.Encoding.ijp b m
  | .inq b y => Laws.Encoding.inq b y
  | .sil b m => Laws.Encoding.sil b m
  | .xec b m => Laws.Encoding.xec b m
  | .sal b m => Laws.Encoding.sal b m
  | .tal b m => Laws.Encoding.tal b m
  | .pts b m => Laws.Encoding.pts b m
  | .eqs b m => Laws.Encoding.eqs b m
  | .ths b m => Laws.Encoding.ths b m
  | .meq b m => Laws.Encoding.meq b m
  | .mth b m => Laws.Encoding.mth b m
  | .rad b m => Laws.Encoding.rad b m
  | .rsb b m => Laws.Encoding.rsb b m
  | .rao b m => Laws.Encoding.rao b m
  | .rso b m => Laws.Encoding.rso b m
  | .exfSelect y => Laws.Encoding.exfSelect y
  | .exfActivate1 y => Laws.Encoding.exfActivate1 y
  | .exfActivate2 y => Laws.Encoding.exfActivate2 y
  | .exfActivate3 y => Laws.Encoding.exfActivate3 y
  | .exfActivate4 y => Laws.Encoding.exfActivate4 y
  | .exfActivate5 y => Laws.Encoding.exfActivate5 y
  | .exfActivate6 y => Laws.Encoding.exfActivate6 y
  | .exfSense y => Laws.Encoding.exfSense y
  | .slj j m => Laws.Encoding.slj j m
  | .sls j m => Laws.Encoding.sls j m
  | .fault77 b m => Laws.Encoding.fault77 b m

theorem decode_encode (i : Instr) : decode (encode i) = i := by
  obtain ⟨f, b, m, hword, hrow⟩ := encode_made_of_fields i
  rw [hword, decode_makeWord, hrow]

/-- A word is one of the bit strings that have 24 bits, so the decoder of bit strings reads it (R90). -/
theorem decodeTableWord_toNat (w : Word) : decodeTableWord 24 w.toNat = some (decode w) := by
  have hfits : w.toNat < 2 ^ 24 := w.isLt
  rw [decodeTableWord, decodeBits, if_pos rfl, if_pos hfits, BitVec.ofNat_toNat, BitVec.setWidth_eq]
  rfl

/-! ### From the word to its instruction and back -/

theorem encode_decode52 : ∀ (b : Desig) (m : Addr), encode (decode52 b m) = makeWord 0o52 b m := by
  intro b m
  obtain ⟨⟨n, hn⟩⟩ := b
  have : n < 8 := hn
  interval_cases n <;> rfl

theorem encode_decode74 : ∀ (b : Desig) (y : Addr), encode (decode74 b y) = makeWord 0o74 b y := by
  intro b y
  obtain ⟨⟨n, hn⟩⟩ := b
  have : n < 8 := hn
  interval_cases n <;> rfl

/-- Every row of the map is encoded with the operation code it stands at (R100: all 64 are accounted for). -/
theorem encode_decodeFields (f : BitVec 6) (b : Desig) (m : Addr) :
    encode (decodeFields f b m) = makeWord f b m := by
  obtain ⟨⟨n, hn⟩⟩ := f
  have : n < 64 := hn
  interval_cases n <;> try rfl
  · exact encode_decode52 b m
  · exact encode_decode74 b m

theorem encode_decode (w : Word) : encode (decode w) = w := by
  rw [decode, encode_decodeFields, makeWord_fields]

/-- Settles O2: the two maps are inverse to each other, and the table's decoder of bit strings is the first of them. -/
theorem decodeAndEncodeAgree : Obligations.DecodeAndEncodeAgree := by
  refine ⟨fun i _ => ⟨decode_encode i, ?_⟩, encode_decode⟩
  rw [decodeTableWord_toNat, decode_encode]

/-! ### The spec's words -/

/-- Settles O1: the decoder computes each of the words. -/
theorem specWordsDecode : Obligations.SpecWordsDecode := by
  unfold Obligations.SpecWordsDecode
  decide

end Sys2Proof.Proofs.Encoding
end

section
/-!
What the buffer agent does to storage and to the rest of the state, over any number of requests (spec/49_external_function.md
R241 to R244, R256).
-/

namespace Sys2Proof.Proofs.BufferAgent

open Sys2Proof Sys2Proof.Machine

/-! ### Storage stays in its canonical form -/

/-- Storage is in its canonical form. -/
def Canonical (s : State) : Prop := s.mem.wf = true

theorem advanceBuffer_canonical {s : State} (h : Canonical s) (c : Channel) (next : Addr) :
    NextIn (s.advanceBuffer c next) Canonical :=
  .andThen <| .writeAddr fun _ hm => .withRead fun t => .next <| by
    split
    · exact hm h
    · exact hm h

theorem inputStep_canonical {s : State} (h : Canonical s) (c : Channel) (w : Word) :
    NextIn (s.inputStep c w) Canonical :=
  .withRead fun _ => .andThen <| .writeWord fun _ hm => advanceBuffer_canonical (s := { s with mem := _ }) (hm h) c _

theorem outputStep_canonical {s : State} (h : Canonical s) (c : Channel) {k : Word → State → Result}
    (hk : ∀ w s1, Canonical s1 → NextIn (k w s1) Canonical) : NextIn (s.outputStep c k) Canonical :=
  .withRead fun _ => .withRead fun w => .andThen <| (advanceBuffer_canonical h c _).mono (hk w)

theorem input_canonical {s : State} (h : Canonical s) (c : Channel) (d : Long) : NextIn (s.input c d) Canonical := by
  unfold State.input
  split
  · exact inputStep_canonical h c _
  · exact inputStep_canonical h c _
  · refine .andThen <| (inputStep_canonical h c _).mono fun s1 h1 => ?_
    split
    · exact inputStep_canonical h1 c _
    · exact .refused _

/-- What is sent or punched is no storage. -/
theorem Canonical.sent {s : State} (h : Canonical s) {b : Bool} {s1 s2 : State} (h1 : s1.mem = s.mem)
    (h2 : s2.mem = s.mem) : Canonical (if b then s1 else s2) := by
  cases b
  · exact (congrArg Memory.wf h2).trans h
  · exact (congrArg Memory.wf h1).trans h

theorem output_canonical {s : State} (h : Canonical s) (c : OutChannel) : NextIn (s.output c) Canonical := by
  unfold State.output
  split
  · exact outputStep_canonical h _ fun _ _ h1 => .next (h1.sent rfl rfl)
  · exact outputStep_canonical h _ fun _ _ h1 => .next (h1.sent rfl rfl)
  · refine outputStep_canonical h _ fun w1 s1 h1 => ?_
    split
    · exact outputStep_canonical h1 _ fun _ _ h2 => .next (h2.sent rfl rfl)
    · exact .refused _

theorem readerStep_canonical {s : State} (h : Canonical s) : NextIn s.readerStep Canonical := by
  have word (rest : List Frame) (w : Word) : NextIn (s.readerWord rest w) Canonical :=
    inputStep_canonical (s := s.setEnv { s.env with tape := rest }) h _ _
  unfold State.readerStep
  split
  · exact word _ _
  · split
    · exact word _ _
    · exact .next h
  · split
    · exact .next h
    · exact .next h
  · exact .next h

theorem alone_canonical {s : State} {c : Channel} {e : Equipment} {r : Result} (h : NextIn r Canonical) :
    NextIn (s.alone c e r) Canonical :=
  fun t ht => h t (State.alone_eq_next.1 ht).2

theorem byExternal_canonical {s : State} (h : Canonical s) {c : Channel} {x : External} {r r0 : Result}
    (hr : NextIn r Canonical) (hr0 : NextIn r0 Canonical) : NextIn (s.byExternal c x r r0) Canonical := by
  intro t ht
  rcases State.byExternal_cases ht with ht | ht | rfl
  · exact hr t ht
  · exact hr0 t ht
  · exact h

theorem selectByWord_canonical {s : State} (h : Canonical s) (c : OutChannel) (x : External) :
    NextIn (s.selectByWord c x) Canonical := by
  unfold State.selectByWord
  split
  · refine .withRead fun _ => .withRead fun w => ?_
    split
    · exact .andThen <| (output_canonical h c).mono fun _ h1 => .next h1
    · exact .next h
  · exact .next h

theorem serve_canonical {s : State} (h : Canonical s) (x : Transfer) : NextIn (s.serve x) Canonical := by
  unfold State.serve
  split
  · exact byExternal_canonical h (input_canonical h _ _) (.next h)
  · exact byExternal_canonical h (output_canonical h _) (selectByWord_canonical h _ _)
  · split
    · exact alone_canonical (readerStep_canonical h)
    · exact .next h
  · split
    · exact alone_canonical (output_canonical h _)
    · exact .next h

/-! ### Any number of requests -/

/-- All that serving requests one after another can do: what serving one of them can (`Taken`), and storage stays in its
canonical form. -/
structure Attended (s t : State) : Prop where
  frame : t = { s with
    mem := t.mem
    chan := { s.chan with active := t.chan.active, user := t.chan.user }
    con := { s.con with readerEot := t.con.readerEot }
    env := { s.env with sent := t.env.sent, tape := t.env.tape, punched := t.env.punched }
    free := t.free }
  user : ∀ c, t.chan.user.get c = s.chan.user.get c ∨
    (c.isInput = false ∧ s.chan.mode.get c.pair = .bits12 ∧ ∃ x, t.chan.user.get c = some ⟨.external x, c⟩)
  canonical : Canonical s → Canonical t

theorem Attended.refl (s : State) : Attended s s := ⟨rfl, fun _ => .inl rfl, id⟩

theorem Attended.mode {s t : State} (h : Attended s t) : t.chan.mode = s.chan.mode := by
  rw [h.frame]

/-- A selection made for the first of two is kept by the second, or made anew. -/
theorem Attended.trans {s t v : State} (h : Attended s t) (k : Attended t v) : Attended s v where
  frame := by
    have hk := k.frame
    rw [h.frame] at hk
    exact hk
  user c := by
    rcases k.user c with hc | ⟨hin, hmode, hx⟩
    · rw [hc]
      exact h.user c
    · exact .inr ⟨hin, h.mode ▸ hmode, hx⟩
  canonical := k.canonical ∘ h.canonical

theorem serve_attended {s t : State} {x : Transfer} (h : s.serve x = .next t) : Attended s t :=
  ⟨(State.serve_taken h).frame, (State.serve_taken h).user, fun hs => serve_canonical hs x t h⟩

theorem serveAll_nil (s : State) : s.serveAll [] = .next s := rfl

theorem serveAll_cons (s : State) (x : Transfer) (ts : List Transfer) :
    s.serveAll (x :: ts) = andThen (s.serve x) fun s1 => s1.serveAll ts := rfl

theorem serveAll_attended {ts : List Transfer} {s t : State} (h : s.serveAll ts = .next t) : Attended s t := by
  induction ts generalizing s with
  | nil => exact Host.Outcome.next.inj h ▸ Attended.refl s
  | cons x ts ih =>
    obtain ⟨s1, h1, h2⟩ := andThen_eq_next.1 h
    exact (serve_attended h1).trans (ih h2)

end Sys2Proof.Proofs.BufferAgent
end

section
/-!
What every instruction leaves alone (spec/10_state.md section 4, spec/60_exceptions.md R276).  The idea: one relation says
what an instruction other than EXF may do, one what EXF may do, and XEC does what the word at the end of its chain does.
-/

namespace Sys2Proof.Proofs.InstructionFrames

open Sys2Proof Sys2Proof.Machine Sys2Proof.Proofs.BufferAgent Sys2Proof.Proofs.Encoding

/-! ### The part of the invariant that is about storage and the equipment -/

/-- The clauses of the invariant that do not speak of the operator's panel. -/
structure Sound (s : State) : Prop where
  storage : s.mem.wf = true
  noOddFault : s.ind.oddStorage = false
  noEvenFault : s.ind.evenStorage = false
  clock : s.intr.rtcRequest = true → s.intr.selRtc = true
  readerUser : ∀ d, s.chan.user.c1 = some ⟨.reader, d⟩ → d = .c1 ∧ s.con.readerSelected = true
  punchUser : ∀ d, s.chan.user.c2 = some ⟨.punch, d⟩ → d = .c2 ∧ s.con.punchSelected = true
  reader : s.con.readerArmed = true → s.con.readerSelected = true ∧ s.chan.mode.p12 = .bits24

/-- Serving buffer requests can only add selections of external equipment. -/
theorem Sound.attended {s t : State} (h : Sound s) (k : Attended s t) : Sound t := by
  have hf := k.frame
  have hind : t.ind = s.ind := by rw [hf]
  have hintr : t.intr = s.intr := by rw [hf]
  have hselected : t.con.readerSelected = s.con.readerSelected := by rw [hf]
  have hpunch : t.con.punchSelected = s.con.punchSelected := by rw [hf]
  have harmed : t.con.readerArmed = s.con.readerArmed := by rw [hf]
  refine ⟨k.canonical h.storage, hind ▸ h.noOddFault, hind ▸ h.noEvenFault, hintr ▸ h.clock, ?_, ?_, ?_⟩
  · intro d hd
    rw [hselected]
    rcases k.user .c1 with hc | ⟨hin, -, -⟩
    · exact h.readerUser d (hc.symm.trans hd)
    · exact nomatch hin
  · intro d hd
    rw [hpunch]
    rcases k.user .c2 with hc | ⟨-, -, x, hx⟩
    · exact h.punchUser d (hc.symm.trans hd)
    · exact nomatch hx.symm.trans hd
  · rw [harmed, hselected, k.mode]
    exact h.reader

/-! ### The indicators -/

/-- No fault indicator goes out, and the storage fault lights stay as they are. -/
structure Sticky (i j : Indicators) : Prop where
  divide : i.divide = true → j.divide = true
  shift : i.shift = true → j.shift = true
  overflow : i.overflow = true → j.overflow = true
  oddStorage : j.oddStorage = i.oddStorage
  evenStorage : j.evenStorage = i.evenStorage

theorem Sticky.refl (i : Indicators) : Sticky i i := ⟨id, id, id, rfl, rfl⟩

theorem Sticky.trans {i j k : Indicators} (h : Sticky i j) (h' : Sticky j k) : Sticky i k where
  divide := h'.divide ∘ h.divide
  shift := h'.shift ∘ h.shift
  overflow := h'.overflow ∘ h.overflow
  oddStorage := h'.oddStorage.trans h.oddStorage
  evenStorage := h'.evenStorage.trans h.evenStorage

/-! ### The panel -/

/-- What a program may do to the panel: stop the computer, with the jump of an SLS pending or not. -/
structure PanelKept (p q : Panel) : Prop where
  jumpKey : q.jumpKey = p.jumpKey
  stopKey : q.stopKey = p.stopKey
  run : p.run = .stopped → q.run = .stopped
  uSet : q.uSet = true → p.uSet = true
  pending : q.slsPending = true → p.slsPending = true ∨ q.run = .stopped

theorem PanelKept.refl (p : Panel) : PanelKept p p := ⟨rfl, rfl, id, id, .inl⟩

theorem PanelKept.trans {p q r : Panel} (h : PanelKept p q) (k : PanelKept q r) : PanelKept p r where
  jumpKey := k.jumpKey.trans h.jumpKey
  stopKey := k.stopKey.trans h.stopKey
  run := k.run ∘ h.run
  uSet := h.uSet ∘ k.uSet
  pending hr := (k.pending hr).elim (fun hq => (h.pending hq).imp_right k.run) .inr

/-! ### Instructions other than EXF -/

/-- What an instruction other than EXF and XEC may have done on its way from `s` to `t`; of the control state, nothing
unless buffer requests come between the words of a search. -/
structure Ran (s t : State) : Prop where
  inst : t.inst = s.inst
  op : opField t.u = opField s.u
  ind : Sticky s.ind t.ind
  intr : t.intr = s.intr
  panel : PanelKept s.panel t.panel
  schedule : t.env.schedule = s.env.schedule
  control : s.env.searchRequests = [] → t.chan = s.chan ∧ t.con = s.con ∧ t.env = s.env
  sound : Sound s → Sound t

namespace Ran

variable {s t v : State}

theorem refl (s : State) : Ran s s :=
  ⟨rfl, rfl, .refl _, rfl, .refl _, rfl, fun _ => ⟨rfl, rfl, rfl⟩, id⟩

theorem trans (h : Ran s t) (k : Ran t v) : Ran s v where
  inst := k.inst.trans h.inst
  op := k.op.trans h.op
  ind := h.ind.trans k.ind
  intr := k.intr.trans h.intr
  panel := h.panel.trans k.panel
  schedule := k.schedule.trans h.schedule
  control hs := by
    obtain ⟨hchan, hcon, henv⟩ := h.control hs
    obtain ⟨kchan, kcon, kenv⟩ := k.control (henv ▸ hs)
    exact ⟨kchan.trans hchan, kcon.trans hcon, kenv.trans henv⟩
  sound := k.sound ∘ h.sound

/-- Buffer requests that are due between two words of a search (R72, R200). -/
theorem gap : NextIn s.searchGap (Ran s) := by
  cases hr : s.env.searchRequests with
  | nil =>
    rw [State.searchGap_nil hr]
    exact .next (refl s)
  | cons ts rest =>
    intro t ht
    rw [State.searchGap, hr] at ht
    have k := serveAll_attended ht
    have hs : Sound s → Sound (s.setEnv { s.env with searchRequests := rest }) :=
      fun h => ⟨h.storage, h.noOddFault, h.noEvenFault, h.clock, h.readerUser, h.punchUser, h.reader⟩
    refine ⟨?_, ?_, ?_, ?_, ?_, ?_, fun h0 => absurd (hr.symm.trans h0) (List.cons_ne_nil _ _),
      fun h => (hs h).attended k⟩ <;> rw [k.frame]
    · rfl
    · rfl
    · exact .refl _
    · rfl
    · exact .refl _
    · rfl

/-! Each update of the state, after what has been done so far. -/

theorem setA (h : Ran s t) (w : Word) : Ran s (t.setA w) :=
  h.trans ⟨rfl, rfl, .refl _, rfl, .refl _, rfl, fun _ => ⟨rfl, rfl, rfl⟩, fun k => { k with }⟩

theorem setQ (h : Ran s t) (w : Word) : Ran s (t.setQ w) :=
  h.trans ⟨rfl, rfl, .refl _, rfl, .refl _, rfl, fun _ => ⟨rfl, rfl, rfl⟩, fun k => { k with }⟩

theorem setB (h : Ran s t) (i : Index) (a : Addr) : Ran s (t.setB i a) :=
  h.trans ⟨rfl, rfl, .refl _, rfl, .refl _, rfl, fun _ => ⟨rfl, rfl, rfl⟩, fun k => { k with }⟩

theorem setP (h : Ran s t) (a : Addr) : Ran s (t.setP a) :=
  h.trans ⟨rfl, rfl, .refl _, rfl, .refl _, rfl, fun _ => ⟨rfl, rfl, rfl⟩, fun k => { k with }⟩

theorem setFree (h : Ran s t) (n : Nat) : Ran s (t.setFree n) :=
  h.trans ⟨rfl, rfl, .refl _, rfl, .refl _, rfl, fun _ => ⟨rfl, rfl, rfl⟩, fun k => { k with }⟩

theorem setInd (h : Ran s t) {i : Indicators} (hi : Sticky t.ind i) : Ran s (t.setInd i) :=
  h.trans ⟨rfl, rfl, hi, rfl, .refl _, rfl, fun _ => ⟨rfl, rfl, rfl⟩, fun k =>
    { k with noOddFault := hi.oddStorage.trans k.noOddFault, noEvenFault := hi.evenStorage.trans k.noEvenFault }⟩

theorem setPanel (h : Ran s t) {p : Panel} (hp : PanelKept t.panel p) : Ran s (t.setPanel p) :=
  h.trans ⟨rfl, rfl, .refl _, rfl, hp, rfl, fun _ => ⟨rfl, rfl, rfl⟩, fun k => { k with }⟩

theorem stored (h : Ran s t) {m : Memory} (hm : t.mem.wf = true → m.wf = true) : Ran s { t with mem := m } :=
  h.trans ⟨rfl, rfl, .refl _, rfl, .refl _, rfl, fun _ => ⟨rfl, rfl, rfl⟩, fun k => { k with storage := hm k.storage }⟩

theorem substituted (s : State) (b d : Desig) (m : Addr) : Ran s (s.substitute b d m) := by
  rw [State.substitute_eq]
  refine ⟨rfl, ?_, .refl _, rfl, .refl _, rfl, fun _ => ⟨rfl, rfl, rfl⟩, fun k => { k with }⟩
  show opField (s.uAfter b d m) = opField s.u
  unfold State.uAfter
  split
  · exact opField_makeWord _ _ _
  · rfl

theorem setIndex (h : Ran s t) (i : Option Index) (a : Addr) : Ran s (t.setIndex i a) := by
  cases i with
  | none => exact h
  | some i => exact h.setB i a

theorem exit (h : Ran s t) : Ran s t.exit := h.setP _

theorem skipExit (h : Ran s t) : Ran s t.skipExit := h.setP _

theorem skipIf (h : Ran s t) (c : Bool) : Ran s (t.skipIf c) := by
  cases c with
  | false => exact h.exit
  | true => exact h.skipExit

theorem raiseOverflow (h : Ran s t) (c : Bool) : Ran s (t.raiseOverflow c) :=
  h.setInd ⟨id, id, fun ho => by rw [ho, Bool.true_or], rfl, rfl⟩

theorem raiseShift (h : Ran s t) (k : Addr) : Ran s (t.raiseShift k) :=
  h.setInd ⟨id, fun hs => by rw [hs, Bool.true_or], id, rfl, rfl⟩

theorem raiseDivide (h : Ran s t) : Ran s t.raiseDivide := h.setInd ⟨fun _ => rfl, id, id, rfl, rfl⟩

theorem sumToA (h : Ran s t) (x y : Word) : Ran s (t.sumToA x y) := (h.raiseOverflow _).setA _

theorem setAQ (h : Ran s t) (x : Long) : Ran s (t.setAQ x) := (h.setA _).setQ _

theorem stop (h : Ran s t) : Ran s t.stop :=
  h.setPanel ⟨rfl, rfl, fun _ => rfl, fun hu => Bool.noConfusion hu, fun _ => .inr rfl⟩

theorem stopPending (h : Ran s t) : Ran s (t.setPanel { t.panel with slsPending := true }).stop :=
  h.setPanel (p := { t.panel with slsPending := true, run := .stopped, uSet := false })
    ⟨rfl, rfl, fun _ => rfl, fun hu => Bool.noConfusion hu, fun _ => .inr rfl⟩

/-! Each shared operation, after what has been done so far. -/

theorem writeWord (h : Ran s t) (a : Addr) (w : Word) {k : State → Result}
    (hk : ∀ v, Ran s v → NextIn (k v) (Ran s)) : NextIn (andThen (t.writeWord a w) k) (Ran s) :=
  .andThen <| .writeWord fun _ hm => hk _ (h.stored hm)

theorem writeAddr (h : Ran s t) (a v : Addr) {k : State → Result}
    (hk : ∀ v, Ran s v → NextIn (k v) (Ran s)) : NextIn (andThen (t.writeAddr a v) k) (Ran s) :=
  .andThen <| .writeAddr fun _ hm => hk _ (h.stored hm)

theorem returnJump (h : Ran s t) (a : Addr) : NextIn (t.returnJump a) (Ran s) :=
  h.writeAddr _ _ fun _ hv => .next (hv.setP _)

theorem jumpKind (h : Ran s t) (j : Desig) (m : Addr) : NextIn (t.jumpKind j m) (Ran s) := by
  unfold State.jumpKind
  split
  · exact h.returnJump m
  · exact .next (h.setP m)

theorem jumpIf (h : Ran s t) (c : Bool) (j : Desig) (m : Addr) :
    NextIn (if c then t.jumpKind j m else .next t.exit) (Ran s) := by
  cases c with
  | false => exact .next h.exit
  | true => exact h.jumpKind j m

theorem replaceSum (h : Ran s t) (a : Addr) (x y : Word) : NextIn (t.replaceSum a x y) (Ran s) :=
  (h.sumToA x y).writeWord _ _ fun _ hv => .next hv.exit

/-- Every turn of a search, whatever comes between two of its words. -/
theorem searchLoop (test : Word → Bool) (i : Index) (m : Addr) (c : Nat) (h : Ran s t) :
    NextIn (State.searchLoop test i m c t) (Ran s) := by
  induction c generalizing t with
  | zero => exact .next h.exit
  | succ c ih =>
    refine .withRead fun w => ?_
    have h1 := h.setB i (BitVec.ofNat 15 c)
    split
    · exact .next h1.skipExit
    · split
      · exact .next h1.exit
      · exact .andThen <| gap.mono fun v hv => ih (h1.trans hv)

theorem search (h : Ran s t) (test : Word → Bool) (i : Option Index) (m : Addr) :
    NextIn (t.search test i m) (Ran s) := by
  cases i with
  | none => exact .withRead fun w => .next (h.skipIf _)
  | some i => exact h.searchLoop test i m _

theorem code52 (h : Ran s t) (d : Desig) :
    NextIn (match d.toNat with
      | 0 => .next t.interchange.exit
      | 1 => .next t.complementA.exit
      | 2 => .next t.complementQ.exit
      | _ => t.illegal) (Ran s) := by
  split
  · exact .next ((h.setA _).setQ _).exit
  · exact .next (h.setA _).exit
  · exact .next (h.setQ _).exit
  · exact .next h.stop

/-! The operand forms. -/

theorem withResolved {b : Desig} {m : Addr} {k : Desig → Addr → State → Result}
    (hk : ∀ d a t, Ran s t → NextIn (k d a t) (Ran s)) : NextIn (s.withResolved b m k) (Ran s) :=
  .withResolved fun d m1 => hk _ _ _ (substituted s b d m1)

theorem withIndex {b : Desig} {m : Addr} {k : Option Index → Addr → State → Result}
    (hk : ∀ i a t, Ran s t → NextIn (k i a t) (Ran s)) : NextIn (s.withIndex b m k) (Ran s) :=
  .withIndex fun d m1 => hk _ _ _ (substituted s b d m1)

theorem withModified {b : Desig} {m : Addr} {k : Addr → State → Result}
    (hk : ∀ a t, Ran s t → NextIn (k a t) (Ran s)) : NextIn (s.withModified b m k) (Ran s) :=
  .withModified fun d m1 => hk _ _ (substituted s b d m1)

theorem withOperand {b : Desig} {m : Addr} {k : Addr → Word → State → Result}
    (hk : ∀ a w t, Ran s t → NextIn (k a w t) (Ran s)) : NextIn (s.withOperand b m k) (Ran s) :=
  .withOperand fun d m1 w => hk _ w _ (substituted s b d m1)

theorem needIndex {i : Option Index} {k : Index → Result} (hk : ∀ i, NextIn (k i) (Ran s)) :
    NextIn (needIndex i k) (Ran s) := by
  cases i with
  | none => exact .refused _
  | some i => exact hk i

end Ran

/-- The instruction is neither XEC nor EXF. -/
def Ordinary (i : Instr) : Prop := opField (encode i) ≠ 0o60 ∧ opField (encode i) ≠ 0o74

section Instructions

variable (b : Desig) (m : Addr) (s : State)

/-! Each instruction, by the operations it is made of. -/

theorem dvi_ran : NextIn (execDvi b m s) (Ran s) :=
  Ran.withOperand fun _ v t h => by
    show NextIn (if _ then _ else _) _
    split
    · exact .next (((h.raiseDivide.setA _).setQ _).setFree _).exit
    · exact .next ((h.setA _).setQ _).exit

theorem lil_ran : NextIn (execLil b m s) (Ran s) :=
  Ran.withIndex fun i _ t h => by
    cases i with
    | none => exact .next h.exit
    | some i => exact .withRead fun w => .next (h.setB i _).exit

theorem ini_ran : NextIn (execIni b m s) (Ran s) :=
  Ran.withIndex fun i _ t h => by
    cases i with
    | none => exact .next h.exit
    | some i => exact .next (h.setB i _).exit

theorem ijp_ran : NextIn (execIjp b m s) (Ran s) :=
  Ran.withIndex fun i a t h => by
    cases i with
    | none => exact .next h.exit
    | some i =>
      refine .next ?_
      split
      · exact h.exit
      · exact (h.setB i _).setP a

theorem isk_ran : NextIn (execIsk b m s) (Ran s) :=
  Ran.withIndex fun _ _ t h => Ran.needIndex fun i => .next <| by
    split
    · exact (h.setB i 0).skipExit
    · exact (h.setB i _).exit

theorem sls_ran : NextIn (execSls b m s) (Ran s) := by
  unfold execSls
  split
  · exact .next (Ran.refl s).stopPending
  · exact (Ran.refl s).jumpKind b m

theorem fault00_ran : NextIn (execFault00 b m s) (Ran s) :=
  .next (Ran.refl s).stop

theorem ars_ran : NextIn (execArs b m s) (Ran s) :=
  Ran.withModified fun n _ h => .next ((h.raiseShift n).setA _).exit

theorem qrs_ran : NextIn (execQrs b m s) (Ran s) :=
  Ran.withModified fun n _ h => .next ((h.raiseShift n).setQ _).exit

theorem lrs_ran : NextIn (execLrs b m s) (Ran s) :=
  Ran.withModified fun n _ h => .next ((h.raiseShift n).setAQ _).exit

theorem enq_ran : NextIn (execEnq b m s) (Ran s) :=
  Ran.withModified fun _ _ h => .next (h.setQ _).exit

theorem als_ran : NextIn (execAls b m s) (Ran s) :=
  Ran.withModified fun n _ h => .next ((h.raiseShift n).setA _).exit

theorem qls_ran : NextIn (execQls b m s) (Ran s) :=
  Ran.withModified fun n _ h => .next ((h.raiseShift n).setQ _).exit

theorem lls_ran : NextIn (execLls b m s) (Ran s) :=
  Ran.withModified fun n _ h => .next ((h.raiseShift n).setAQ _).exit

theorem ena_ran : NextIn (execEna b m s) (Ran s) :=
  Ran.withModified fun _ _ h => .next (h.setA _).exit

theorem ina_ran : NextIn (execIna b m s) (Ran s) :=
  Ran.withModified fun _ _ h => .next (h.sumToA _ _).exit

theorem lda_ran : NextIn (execLda b m s) (Ran s) :=
  Ran.withOperand fun _ _ _ h => .next (h.setA _).exit

theorem lac_ran : NextIn (execLac b m s) (Ran s) :=
  Ran.withOperand fun _ _ _ h => .next (h.setA _).exit

theorem add_ran : NextIn (execAdd b m s) (Ran s) :=
  Ran.withOperand fun _ _ _ h => .next (h.sumToA _ _).exit

theorem sub_ran : NextIn (execSub b m s) (Ran s) :=
  Ran.withOperand fun _ _ _ h => .next (h.sumToA _ _).exit

theorem ldq_ran : NextIn (execLdq b m s) (Ran s) :=
  Ran.withOperand fun _ _ _ h => .next (h.setQ _).exit

theorem lqc_ran : NextIn (execLqc b m s) (Ran s) :=
  Ran.withOperand fun _ _ _ h => .next (h.setQ _).exit

theorem sta_ran : NextIn (execSta b m s) (Ran s) :=
  Ran.withModified fun _ _ h => h.writeWord _ _ fun _ hv => .next hv.exit

theorem stq_ran : NextIn (execStq b m s) (Ran s) :=
  Ran.withModified fun _ _ h => h.writeWord _ _ fun _ hv => .next hv.exit

theorem ajp_ran : NextIn (execAjp b m s) (Ran s) :=
  (Ran.refl s).jumpIf _ b m

theorem qjp_ran : NextIn (execQjp b m s) (Ran s) :=
  (Ran.refl s).jumpIf _ b m

theorem mui_ran : NextIn (execMui b m s) (Ran s) :=
  Ran.withOperand fun _ _ _ h => .next ((h.setQ _).setA _).exit

theorem ati_ran : NextIn (execAti b m s) (Ran s) :=
  Ran.withIndex fun i _ _ h => .next (h.setIndex i _).exit

theorem qti_ran : NextIn (execQti b m s) (Ran s) :=
  Ran.withIndex fun i _ _ h => .next (h.setIndex i _).exit

theorem skh_ran : NextIn (execSkh b m s) (Ran s) :=
  Ran.withIndex fun _ _ _ h => Ran.needIndex fun _ => .next (h.skipIf _)

theorem skl_ran : NextIn (execSkl b m s) (Ran s) :=
  Ran.withIndex fun _ _ _ h => Ran.needIndex fun _ => .next (h.skipIf _)

theorem ujp_ran : NextIn (execUjp b m s) (Ran s) :=
  Ran.withModified fun a _ h => .next (h.setP a)

theorem urj_ran : NextIn (execUrj b m s) (Ran s) :=
  Ran.withModified fun a _ h => h.returnJump a

theorem sca_ran : NextIn (execSca b m s) (Ran s) :=
  Ran.withIndex fun i _ _ h => .next ((h.setA _).setIndex i _).exit

theorem scq_ran : NextIn (execScq b m s) (Ran s) :=
  Ran.withIndex fun i _ _ h => .next ((h.setAQ _).setIndex i _).exit

theorem ssk_ran : NextIn (execSsk b m s) (Ran s) :=
  Ran.withOperand fun _ _ _ h => .next (h.skipIf _)

theorem ssh_ran : NextIn (execSsh b m s) (Ran s) :=
  Ran.withOperand fun _ _ _ h => h.writeWord _ _ fun _ hv => .next (hv.skipIf _)

theorem sst_ran : NextIn (execSst b m s) (Ran s) :=
  Ran.withOperand fun _ _ _ h => .next (h.setA _).exit

theorem scl_ran : NextIn (execScl b m s) (Ran s) :=
  Ran.withOperand fun _ _ _ h => .next (h.setA _).exit

theorem scm_ran : NextIn (execScm b m s) (Ran s) :=
  Ran.withOperand fun _ _ _ h => .next (h.setA _).exit

theorem ssu_ran : NextIn (execSsu b m s) (Ran s) :=
  Ran.withOperand fun _ _ _ h => .next (h.setA _).exit

theorem ldl_ran : NextIn (execLdl b m s) (Ran s) :=
  Ran.withOperand fun _ _ _ h => .next (h.setA _).exit

theorem adl_ran : NextIn (execAdl b m s) (Ran s) :=
  Ran.withOperand fun _ _ _ h => .next (h.sumToA _ _).exit

theorem sbl_ran : NextIn (execSbl b m s) (Ran s) :=
  Ran.withOperand fun _ _ _ h => .next (h.sumToA _ _).exit

theorem stl_ran : NextIn (execStl b m s) (Ran s) :=
  Ran.withModified fun _ _ h => h.writeWord _ _ fun _ hv => .next hv.exit

theorem eni_ran : NextIn (execEni b m s) (Ran s) :=
  Ran.withIndex fun i _ _ h => .next (h.setIndex i _).exit

theorem xaq_ran : NextIn (execXaq m s) (Ran s) :=
  .next (((Ran.refl s).setA _).setQ _).exit

theorem cma_ran : NextIn (execCma m s) (Ran s) :=
  .next ((Ran.refl s).setA _).exit

theorem cmq_ran : NextIn (execCmq m s) (Ran s) :=
  .next ((Ran.refl s).setQ _).exit

theorem fault52d3_ran : NextIn (execFault52d3 m s) (Ran s) :=
  .next (Ran.refl s).stop

theorem fault52d4_ran : NextIn (execFault52d4 m s) (Ran s) :=
  .next (Ran.refl s).stop

theorem fault52d5_ran : NextIn (execFault52d5 m s) (Ran s) :=
  .next (Ran.refl s).stop

theorem fault52d6_ran : NextIn (execFault52d6 m s) (Ran s) :=
  .next (Ran.refl s).stop

theorem indirect52_ran : NextIn (execIndirect52 m s) (Ran s) :=
  Ran.withResolved fun d _ _ h => h.code52 d

theorem inq_ran : NextIn (execInq b m s) (Ran s) :=
  Ran.withModified fun _ _ h => .next ((h.raiseOverflow _).setQ _).exit

theorem sil_ran : NextIn (execSil b m s) (Ran s) :=
  Ran.withIndex fun _ _ _ h => h.writeAddr _ _ fun _ hv => .next hv.exit

theorem sal_ran : NextIn (execSal b m s) (Ran s) :=
  Ran.withModified fun _ _ h => h.writeAddr _ _ fun _ hv => .next hv.exit

theorem tal_ran : NextIn (execTal b m s) (Ran s) :=
  Ran.withIndex fun i _ _ h => .next (h.setIndex i _).exit

theorem pts_ran : NextIn (execPts b m s) (Ran s) :=
  Ran.withIndex fun i a _ h => h.search _ i a

theorem eqs_ran : NextIn (execEqs b m s) (Ran s) :=
  Ran.withIndex fun i a _ h => h.search _ i a

theorem ths_ran : NextIn (execThs b m s) (Ran s) :=
  Ran.withIndex fun i a _ h => h.search _ i a

theorem meq_ran : NextIn (execMeq b m s) (Ran s) :=
  Ran.withIndex fun i a _ h => h.search _ i a

theorem mth_ran : NextIn (execMth b m s) (Ran s) :=
  Ran.withIndex fun i a _ h => h.search _ i a

theorem rad_ran : NextIn (execRad b m s) (Ran s) :=
  Ran.withOperand fun a x _ h => h.replaceSum a x _

theorem rsb_ran : NextIn (execRsb b m s) (Ran s) :=
  Ran.withOperand fun a x _ h => h.replaceSum a x _

theorem rao_ran : NextIn (execRao b m s) (Ran s) :=
  Ran.withOperand fun a x _ h => h.replaceSum a x _

theorem rso_ran : NextIn (execRso b m s) (Ran s) :=
  Ran.withOperand fun a x _ h => h.replaceSum a x _

theorem slj_ran : NextIn (execSlj b m s) (Ran s) :=
  (Ran.refl s).jumpIf _ b m

theorem fault77_ran : NextIn (execFault77 b m s) (Ran s) :=
  .next (Ran.refl s).stop

end Instructions

/-- What every instruction but XEC and EXF may do. -/
theorem exec_ran : ∀ (i : Instr) (s : State), Ordinary i → NextIn (exec i s) (Ran s)
  | .fault00 b m, s, _ => fault00_ran b m s
  | .ars b m, s, _ => ars_ran b m s
  | .qrs b m, s, _ => qrs_ran b m s
  | .lrs b m, s, _ => lrs_ran b m s
  | .enq b m, s, _ => enq_ran b m s
  | .als b m, s, _ => als_ran b m s
  | .qls b m, s, _ => qls_ran b m s
  | .lls b m, s, _ => lls_ran b m s
  | .ena b m, s, _ => ena_ran b m s
  | .ina b m, s, _ => ina_ran b m s
  | .lda b m, s, _ => lda_ran b m s
  | .lac b m, s, _ => lac_ran b m s
  | .add b m, s, _ => add_ran b m s
  | .sub b m, s, _ => sub_ran b m s
  | .ldq b m, s, _ => ldq_ran b m s
  | .lqc b m, s, _ => lqc_ran b m s
  | .sta b m, s, _ => sta_ran b m s
  | .stq b m, s, _ => stq_ran b m s
  | .ajp b m, s, _ => ajp_ran b m s
  | .qjp b m, s, _ => qjp_ran b m s
  | .mui b m, s, _ => mui_ran b m s
  | .dvi b m, s, _ => dvi_ran b m s
  | .ati b m, s, _ => ati_ran b m s
  | .qti b m, s, _ => qti_ran b m s
  | .skh b m, s, _ => skh_ran b m s
  | .skl b m, s, _ => skl_ran b m s
  | .ujp b m, s, _ => ujp_ran b m s
  | .urj b m, s, _ => urj_ran b m s
  | .sca b m, s, _ => sca_ran b m s
  | .scq b m, s, _ => scq_ran b m s
  | .ssk b m, s, _ => ssk_ran b m s
  | .ssh b m, s, _ => ssh_ran b m s
  | .sst b m, s, _ => sst_ran b m s
  | .scl b m, s, _ => scl_ran b m s
  | .scm b m, s, _ => scm_ran b m s
  | .ssu b m, s, _ => ssu_ran b m s
  | .ldl b m, s, _ => ldl_ran b m s
  | .adl b m, s, _ => adl_ran b m s
  | .sbl b m, s, _ => sbl_ran b m s
  | .stl b m, s, _ => stl_ran b m s
  | .eni b m, s, _ => eni_ran b m s
  | .ini b m, s, _ => ini_ran b m s
  | .xaq m, s, _ => xaq_ran m s
  | .cma m, s, _ => cma_ran m s
  | .cmq m, s, _ => cmq_ran m s
  | .fault52d3 m, s, _ => fault52d3_ran m s
  | .fault52d4 m, s, _ => fault52d4_ran m s
  | .fault52d5 m, s, _ => fault52d5_ran m s
  | .fault52d6 m, s, _ => fault52d6_ran m s
  | .indirect52 m, s, _ => indirect52_ran m s
  | .lil b m, s, _ => lil_ran b m s
  | .isk b m, s, _ => isk_ran b m s
  | .ijp b m, s, _ => ijp_ran b m s
  | .inq b m, s, _ => inq_ran b m s
  | .sil b m, s, _ => sil_ran b m s
  | .xec _ _, _, h => absurd (opField_makeWord _ _ _) h.1
  | .sal b m, s, _ => sal_ran b m s
  | .tal b m, s, _ => tal_ran b m s
  | .pts b m, s, _ => pts_ran b m s
  | .eqs b m, s, _ => eqs_ran b m s
  | .ths b m, s, _ => ths_ran b m s
  | .meq b m, s, _ => meq_ran b m s
  | .mth b m, s, _ => mth_ran b m s
  | .rad b m, s, _ => rad_ran b m s
  | .rsb b m, s, _ => rsb_ran b m s
  | .rao b m, s, _ => rao_ran b m s
  | .rso b m, s, _ => rso_ran b m s
  | .exfSelect _, _, h => absurd (opField_makeWord _ _ _) h.2
  | .exfActivate1 _, _, h => absurd (opField_makeWord _ _ _) h.2
  | .exfActivate2 _, _, h => absurd (opField_makeWord _ _ _) h.2
  | .exfActivate3 _, _, h => absurd (opField_makeWord _ _ _) h.2
  | .exfActivate4 _, _, h => absurd (opField_makeWord _ _ _) h.2
  | .exfActivate5 _, _, h => absurd (opField_makeWord _ _ _) h.2
  | .exfActivate6 _, _, h => absurd (opField_makeWord _ _ _) h.2
  | .exfSense _, _, h => absurd (opField_makeWord _ _ _) h.2
  | .slj b m, s, _ => slj_ran b m s
  | .sls b m, s, _ => sls_ran b m s
  | .fault77 b m, s, _ => fault77_ran b m s

end Sys2Proof.Proofs.InstructionFrames
end

section
/-!
What EXF may do (spec/49_external_function.md section 1), and what no instruction does (spec/10_state.md section 4,
spec/60_exceptions.md R276).
-/

namespace Sys2Proof.Proofs.ControlState

open Sys2Proof Sys2Proof.Machine Sys2Proof.Proofs.BufferAgent Sys2Proof.Proofs.Encoding
open Sys2Proof.Proofs.InstructionFrames

/-! ### The select code that clears the indicators -/

/-- A code is the number of its five octal digits (R99). -/
theorem toNat_eq_digits (y : Addr) :
    y.toNat = octalDigit 4 y * 4096 + octalDigit 3 y * 512 + octalDigit 2 y * 64 + octalDigit 1 y * 8 +
      octalDigit 0 y := by
  have hy : y.toNat < 32768 := y.isLt
  simp only [octalDigit, Nat.reducePow]
  omega

theorem internalSelect_eq_clearFaults {d3 d2 d1 d0 : Nat} (h : internalSelect d3 d2 d1 d0 = .clearFaults) :
    d3 = 0 ∧ d2 = 0 ∧ d1 = 7 ∧ d0 = 0 := by
  unfold internalSelect at h
  split at h
  · rename_i h32
    split at h
    · rename_i h10
      exact ⟨h32.1, h32.2, h10.1, h10.2⟩
    · split at h <;> cases h
  · repeat' split at h
    all_goals cases h

theorem readerSelect_ne_clearFaults (d1 d0 : Nat) : readerSelect d1 d0 ≠ .clearFaults := by
  unfold readerSelect
  split <;> exact SelectCode.noConfusion

theorem punchSelect_ne_clearFaults (d1 d0 : Nat) : punchSelect d1 d0 ≠ .clearFaults := by
  unfold punchSelect
  split <;> exact SelectCode.noConfusion

/-- 00070 is the one code that clears the indicators (R245, R276). -/
theorem selectCode_eq_clearFaults {y : Addr} (h : selectCode y = .clearFaults) : y = 0o00070 := by
  simp only [selectCode] at h
  split at h
  · split at h
    · rename_i h4
      obtain ⟨h3, h2, h1, h0⟩ := internalSelect_eq_clearFaults h
      apply BitVec.eq_of_toNat_eq
      rw [toNat_eq_digits, h4, h3, h2, h1, h0]
      rfl
    · cases h
  · split at h
    · cases h
    · split at h
      · exact absurd h (readerSelect_ne_clearFaults _ _)
      · split at h
        · exact absurd h (punchSelect_ne_clearFaults _ _)
        · cases h

/-! ### EXF -/

/-- What EXF may have done: it leaves the registers but P, and the panel; of the interrupt's control state the lockout; of
the environment what is to come; and of the indicators all, unless the code 00070 clears them. -/
structure Controlled (s t : State) : Prop where
  a : t.a = s.a
  q : t.q = s.q
  b : t.b = s.b
  u : t.u = s.u
  ind : t.ind = s.ind ∨ s.u = encode (.exfSelect 0o00070)
  panel : t.panel = s.panel
  lockout : t.intr.lockout = s.intr.lockout
  schedule : t.env.schedule = s.env.schedule
  inst : t.inst = s.inst
  sound : Sound s → Sound t

namespace Controlled

variable {s t : State}

theorem refl (s : State) : Controlled s s := ⟨rfl, rfl, rfl, rfl, .inl rfl, rfl, rfl, rfl, rfl, id⟩

theorem setP (h : Controlled s t) (p : Addr) : Controlled s (t.setP p) :=
  { h with sound := fun k => { h.sound k with } }

theorem exit (h : Controlled s t) : Controlled s t.exit := h.setP _

theorem skipIf (h : Controlled s t) (c : Bool) : Controlled s (t.skipIf c) := by
  cases c with
  | false => exact h.setP _
  | true => exact h.setP _

theorem setIntr (h : Controlled s t) {i : InterruptControl} (hl : i.lockout = t.intr.lockout)
    (hc : (t.intr.rtcRequest = true → t.intr.selRtc = true) → i.rtcRequest = true → i.selRtc = true) :
    Controlled s (t.setIntr i) :=
  { h with lockout := hl.trans h.lockout, sound := fun k => { h.sound k with clock := hc (h.sound k).clock } }

theorem cleared (hs : s.u = encode (.exfSelect 0o00070)) : Controlled s s.clearFaults :=
  ⟨rfl, rfl, rfl, rfl, .inr hs, rfl, rfl, rfl, rfl, fun k => { k with }⟩

theorem stored (h : Controlled s t) {m : Memory} (hm : t.mem.wf = true → m.wf = true) :
    Controlled s { t with mem := m } :=
  { h with sound := fun k => { h.sound k with storage := hm (h.sound k).storage } }

theorem delivered (h : Controlled s t) (y : Addr) : Controlled s (t.deliver y) :=
  { h with sound := fun k => { h.sound k with } }

theorem setActive (h : Controlled s t) (c : Channel) (v : Bool) : Controlled s (t.setActive c v) :=
  { h with sound := fun k => { h.sound k with } }

theorem setPunchMotor (h : Controlled s t) (v : Bool) : Controlled s (t.setCon { t.con with punchMotor := v }) :=
  { h with sound := fun k => { h.sound k with } }

theorem disarmed (h : Controlled s t) : Controlled s (t.setCon { t.con with readerArmed := false }) :=
  { h with sound := fun k => { h.sound k with reader := fun ha => Bool.noConfusion ha } }

/-- A channel has its old selection, or the new one. -/
theorem get_select (r : Users) (c : Channel) (both : Bool) (e : Equipment) (c' : Channel) :
    (r.select c both e).get c' = r.get c' ∨ (r.select c both e).get c' = some ⟨e, c⟩ := by
  have one : (r.set c (some ⟨e, c⟩)).get c' = r.get c' ∨ (r.set c (some ⟨e, c⟩)).get c' = some ⟨e, c⟩ := by
    by_cases h : c' = c
    · subst h
      exact .inr (Users.get_set_same _ _ _)
    · exact .inl (Users.get_set_other _ _ _ _ h)
  cases both with
  | false => exact one
  | true =>
    by_cases h : c' = c.partner
    · subst h
      exact .inr (Users.get_set_same _ _ _)
    · have hother : (r.select c true e).get c' = (r.set c (some ⟨e, c⟩)).get c' := Users.get_set_other _ _ _ _ h
      rwa [hother]

/-- External equipment selected on channels leaves the console's selections sound. -/
theorem selectExternal (h : Controlled s t) (hu : t.chan.user = s.chan.user) (c : Channel) (both : Bool)
    (x : External) : Controlled s (t.setUsers (s.chan.user.select c both (.external x))) := by
  rw [← hu]
  have hget := get_select t.chan.user c both (.external x)
  refine { h with sound := fun k => { h.sound k with readerUser := fun d hd => ?_, punchUser := fun d hd => ?_ } }
  · rcases hget .c1 with h1 | h1
    · exact (h.sound k).readerUser d (h1.symm.trans hd)
    · exact nomatch h1.symm.trans hd
  · rcases hget .c2 with h2 | h2
    · exact (h.sound k).punchUser d (h2.symm.trans hd)
    · exact nomatch h2.symm.trans hd

/-- A reader select puts its channels in the one mode that the invariant allows from here to the activate (R249). -/
theorem selectReader (eot sel : Bool) :
    Controlled s ((s.selectReader eot sel).setUsers (s.chan.user.select .c1 false .reader)) := by
  refine ⟨rfl, rfl, rfl, rfl, .inl rfl, rfl, rfl, rfl, rfl, fun k => { k with
    readerUser := fun d hd => ?_, reader := fun _ => ⟨rfl, rfl⟩ }⟩
  cases hd
  exact ⟨rfl, rfl⟩

theorem selectPunch (mode : TapeMode) :
    Controlled s ((s.selectPunch mode).setUsers (s.chan.user.select .c2 false .punch)) := by
  refine ⟨rfl, rfl, rfl, rfl, .inl rfl, rfl, rfl, rfl, rfl, fun k => { k with punchUser := fun d hd => ?_ }⟩
  cases hd
  exact ⟨rfl, rfl⟩

/-- A channel clear drops the console's selection with the equipment's being selected (R248). -/
theorem clearChannel (c : Channel) : Controlled s (s.clearChannel c) := by
  have keep {u : Option Selection} {x : Selection} (hf : (u.filter fun x => decide (x.digit ≠ c)) = some x) :
      u = some x ∧ x.digit ≠ c := by
    rw [Option.filter_eq_some_iff] at hf
    exact ⟨hf.1, of_decide_eq_true hf.2⟩
  have hreader (k : Sound s) (d : Channel)
      (hd : (s.chan.user.c1.filter fun x => decide (x.digit ≠ c)) = some ⟨.reader, d⟩) :
      d = .c1 ∧ s.con.readerSelected = true ∧ c ≠ .c1 := by
    obtain ⟨hu, hc⟩ := keep hd
    obtain ⟨rfl, hsel⟩ := k.readerUser d hu
    exact ⟨rfl, hsel, Ne.symm hc⟩
  have hpunch (k : Sound s) (d : Channel)
      (hd : (s.chan.user.c2.filter fun x => decide (x.digit ≠ c)) = some ⟨.punch, d⟩) :
      d = .c2 ∧ s.con.punchSelected = true ∧ c ≠ .c2 := by
    obtain ⟨hu, hc⟩ := keep hd
    obtain ⟨rfl, hsel⟩ := k.punchUser d hu
    exact ⟨rfl, hsel, Ne.symm hc⟩
  have other (k : Sound s) (t : State)
      (ht : t = (s.setUsers (s.chan.user.clear c)).setEnv t.env) : Sound t := by
    rw [ht]
    exact { k with
      readerUser := fun d hd => ⟨(hreader k d hd).1, (hreader k d hd).2.1⟩
      punchUser := fun d hd => ⟨(hpunch k d hd).1, (hpunch k d hd).2.1⟩ }
  cases c with
  | c1 =>
    exact ⟨rfl, rfl, rfl, rfl, .inl rfl, rfl, rfl, rfl, rfl, fun k => { k with
      readerUser := fun d hd => absurd rfl (hreader k d hd).2.2
      punchUser := fun d hd => ⟨(hpunch k d hd).1, (hpunch k d hd).2.1⟩
      reader := fun ha => Bool.noConfusion ha }⟩
  | c2 =>
    exact ⟨rfl, rfl, rfl, rfl, .inl rfl, rfl, rfl, rfl, rfl, fun k => { k with
      readerUser := fun d hd => ⟨(hreader k d hd).1, (hreader k d hd).2.1⟩
      punchUser := fun d hd => absurd rfl (hpunch k d hd).2.2 }⟩
  | c3 => exact ⟨rfl, rfl, rfl, rfl, .inl rfl, rfl, rfl, rfl, rfl, fun k => other k _ rfl⟩
  | c4 => exact ⟨rfl, rfl, rfl, rfl, .inl rfl, rfl, rfl, rfl, rfl, fun k => other k _ rfl⟩
  | c5 => exact ⟨rfl, rfl, rfl, rfl, .inl rfl, rfl, rfl, rfl, rfl, fun k => other k _ rfl⟩
  | c6 => exact ⟨rfl, rfl, rfl, rfl, .inl rfl, rfl, rfl, rfl, rfl, fun k => other k _ rfl⟩

/-- Between the reader select and the activate a mode select leaves the pair 1-2 in 24-bit mode, or is refused (R249). -/
theorem selectMode (pairs : BitVec 3) (mode : BufMode) : NextIn (s.selectMode pairs mode) (Controlled s) := by
  unfold State.selectMode
  split
  · exact .refused _
  · rename_i harmed
    split
    · exact .refused _
    · refine .next (Controlled.exit ?_)
      refine ⟨rfl, rfl, rfl, rfl, .inl rfl, rfl, rfl, rfl, rfl, fun k => { k with reader := fun ha => ?_ }⟩
      have ha : s.con.readerArmed = true := ha
      obtain ⟨hsel, hmode⟩ := k.reader ha
      refine ⟨hsel, ?_⟩
      show (if pairs.getLsbD 0 then mode else s.chan.mode.p12) = .bits24
      split
      · rename_i hpair
        simpa [ha, hpair] using harmed
      · exact hmode

theorem selectEquipment {c : Channel} {both : Bool} {e : Equipment} {v : State}
    (h : Controlled s (v.setUsers (s.chan.user.select c both e))) :
    NextIn (s.selectEquipment c both e v) (Controlled s) := by
  intro t ht
  rw [(State.selectEquipment_eq_next.1 ht).2]
  exact h.exit

end Controlled

theorem exfSelect_controlled (y : Addr) {s : State} (hs : s.u = encode (.exfSelect y)) :
    NextIn (execExfSelect y s) (Controlled s) := by
  have h := Controlled.refl s
  unfold execExfSelect
  split
  · exact .next (.exit (h.setIntr rfl id))
  · rename_i hy
    rw [selectCode_eq_clearFaults hy] at hs
    exact .next (Controlled.cleared hs).exit
  · exact .next (.exit (h.setIntr rfl id))
  · exact .next (.exit (h.setIntr rfl fun _ _ => rfl))
  · exact .next (.exit (h.setIntr rfl fun _ hr => Bool.noConfusion hr))
  · exact .selectMode _ _
  · exact .next (Controlled.clearChannel _).exit
  · exact Controlled.selectEquipment (.selectReader false false)
  · exact Controlled.selectEquipment (.selectReader true false)
  · exact Controlled.selectEquipment (.selectReader false true)
  · exact Controlled.selectEquipment (.selectPunch .assembly)
  · exact Controlled.selectEquipment (.selectPunch .character)
  · exact .next (h.setPunchMotor false).exit
  · split
    · exact Controlled.selectEquipment ((h.delivered y).selectExternal rfl _ _ _)
    · exact .next (h.delivered y).exit
  · exact .refused _

theorem activate_controlled (c : Channel) (y : Addr) (s : State) : NextIn (s.activate c y) (Controlled s) := by
  refine .andThen <| .writeAddr fun m hm => .withRead fun w => ?_
  have h := (Controlled.refl s).stored hm
  have h2 : Controlled s
      (if c = .c1 then State.setCon { s with mem := m } { s.con with readerArmed := false } else { s with mem := m }) := by
    split
    · exact h.disarmed
    · exact h
  show NextIn (if _ then _ else _) _
  split
  · exact .next (h2.setActive c false).exit
  · split
    · exact .refused _
    · exact .next (h2.setActive c true).exit

theorem exfSense_controlled (y : Addr) (s : State) : NextIn (execExfSense y s) (Controlled s) := by
  unfold execExfSense
  split
  · exact .next ((Controlled.refl s).skipIf _)
  · exact .refused _

/-- The instructions with operation code 74 are EXF's eight. -/
theorem exf_cases {i : Instr} (h : opField (encode i) = 0o74) :
    (∃ y, i = .exfSelect y) ∨ (∃ c y, i = Channel.activateInstr c y) ∨ ∃ y, i = .exfSense y := by
  have hi := decode_encode i
  rw [decode, h] at hi
  have hd : i = decode74 (desigField (encode i)) (addrField (encode i)) := hi.symm
  rw [hd]
  generalize addrField (encode i) = y
  generalize desigField (encode i) = d
  unfold decode74
  split
  · exact .inl ⟨y, rfl⟩
  · exact .inr (.inl ⟨.c1, y, rfl⟩)
  · exact .inr (.inl ⟨.c2, y, rfl⟩)
  · exact .inr (.inl ⟨.c3, y, rfl⟩)
  · exact .inr (.inl ⟨.c4, y, rfl⟩)
  · exact .inr (.inl ⟨.c5, y, rfl⟩)
  · exact .inr (.inl ⟨.c6, y, rfl⟩)
  · exact .inr (.inr ⟨y, rfl⟩)

theorem exec_activateInstr (c : Channel) (y : Addr) (s : State) : exec (c.activateInstr y) s = s.activate c y := by
  cases c <;> rfl

/-- What every EXF may do. -/
theorem exec_controlled {i : Instr} {s : State} (hi : opField (encode i) = 0o74) (hs : s.u = encode i) :
    NextIn (exec i s) (Controlled s) := by
  rcases exf_cases hi with ⟨y, rfl⟩ | ⟨c, y, rfl⟩ | ⟨y, rfl⟩
  · exact exfSelect_controlled y hs
  · rw [exec_activateInstr]
    exact activate_controlled c y s
  · exact exfSense_controlled y s

/-! ### XEC -/

/-- The instruction with operation code 60 is XEC. -/
theorem xec_of_op {i : Instr} (h : opField (encode i) = 0o60) : ∃ b m, i = .xec b m := by
  have hi := decode_encode i
  rw [decode, h] at hi
  exact ⟨_, _, hi.symm⟩

/-- A chain of XEC words that completes ends with an instruction that is none, executed with that instruction in U and
all else as it was before the XEC (R225, R226). -/
theorem executeTarget_completes (n : Nat) {i : Instr} {s t : State} (hs : s.u = encode i)
    (h : executeTarget n i s = .next t) :
    ∃ j, opField (encode j) ≠ 0o60 ∧ exec j { s with u := encode j } = .next t := by
  induction n generalizing i s with
  | zero => exact nomatch h
  | succ n ih =>
    by_cases hi : opField (encode i) = 0o60
    · obtain ⟨b, m, rfl⟩ := xec_of_op hi
      rw [executeTarget_xec] at h
      obtain ⟨d, m1, w, -, -, hk⟩ := State.withOperand_eq_next.1 h
      split at hk
      · exact nomatch hk
      · obtain ⟨j, hj, hexec⟩ := ih (encode_decode w).symm hk
        refine ⟨j, hj, ?_⟩
        rwa [State.substitute_eq] at hexec
    · refine ⟨i, hi, ?_⟩
      rw [executeTarget_other n i s (by rintro b m rfl; exact hi (opField_makeWord _ _ _))] at h
      rwa [← hs]

/-- The same for any instruction: what completes is an instruction other than XEC. -/
theorem exec_completes {i : Instr} {s t : State} (hs : s.u = encode i) (h : exec i s = .next t) :
    ∃ j, opField (encode j) ≠ 0o60 ∧ exec j { s with u := encode j } = .next t := by
  by_cases hi : opField (encode i) = 0o60
  · obtain ⟨b, m, rfl⟩ := xec_of_op hi
    exact executeTarget_completes maxWords hs h
  · exact ⟨i, hi, by rwa [← hs]⟩

/-- So what any instruction may do is what an EXF, or what an instruction that is neither EXF nor XEC, may do, once U holds
the instruction that was executed. -/
theorem exec_cases {i : Instr} {s t : State} (hs : s.u = encode i) (h : exec i s = .next t) :
    ∃ j, (opField (encode j) ≠ 0o74 ∧ Ran { s with u := encode j } t) ∨
      (opField (encode j) = 0o74 ∧ Controlled { s with u := encode j } t) := by
  obtain ⟨j, hxec, hexec⟩ := exec_completes hs h
  by_cases hexf : opField (encode j) = 0o74
  · exact ⟨j, .inr ⟨hexf, exec_controlled hexf rfl t hexec⟩⟩
  · exact ⟨j, .inl ⟨hexf, exec_ran j _ ⟨hxec, hexf⟩ t hexec⟩⟩

/-- No instruction touches the lockout (R32). -/
theorem exec_keeps_lockout {i : Instr} {s t : State} (hs : s.u = encode i) (h : exec i s = .next t) :
    t.intr.lockout = s.intr.lockout := by
  obtain ⟨j, ⟨-, k⟩ | ⟨-, k⟩⟩ := exec_cases hs h
  · rw [k.intr]
  · exact k.lockout

theorem exec_keeps_panel {i : Instr} {s t : State} (hs : s.u = encode i) (h : exec i s = .next t) :
    PanelKept s.panel t.panel := by
  obtain ⟨j, ⟨-, k⟩ | ⟨-, k⟩⟩ := exec_cases hs h
  · exact k.panel
  · rw [k.panel]
    exact .refl _

theorem exec_keeps_sound {i : Instr} {s t : State} (hs : s.u = encode i) (h : exec i s = .next t)
    (hsound : Sound s) : Sound t := by
  have hu (w : Word) : Sound { s with u := w } := { hsound with }
  obtain ⟨j, ⟨-, k⟩ | ⟨-, k⟩⟩ := exec_cases hs h
  · exact k.sound (hu _)
  · exact k.sound (hu _)

/-- Settles O59: only an EXF can clear an indicator, and it leaves itself in U. -/
theorem faultIndicatorsAreSticky : Obligations.FaultIndicatorsAreSticky := by
  intro i s t hs h hu
  obtain ⟨j, ⟨-, k⟩ | ⟨-, k⟩⟩ := exec_cases hs h
  · exact ⟨k.ind.divide, k.ind.shift, k.ind.overflow⟩
  · have hind : t.ind = s.ind := k.ind.resolve_right fun hclear => hu (k.u.trans hclear)
    rw [hind]
    exact ⟨id, id, id⟩

/-- Settles O60: the operation code in U tells which of the two relations holds. -/
theorem onlyExternalFunctionsTouchControlState : Obligations.OnlyExternalFunctionsTouchControlState := by
  intro i s t hs hr h
  have hlock := exec_keeps_lockout hs h
  have hpanel := exec_keeps_panel hs h
  obtain ⟨j, ⟨hj, k⟩ | ⟨hj, k⟩⟩ := exec_cases hs h
  · have hop : opField t.u ≠ 0o74 := fun h74 => hj (k.op.symm.trans h74)
    obtain ⟨hchan, hcon, henv⟩ := k.control hr
    exact ⟨hlock, k.inst, hpanel.jumpKey, hpanel.stopKey, k.schedule, fun _ => ⟨k.intr, hchan, hcon, henv⟩,
      fun h74 => absurd h74 hop⟩
  · have hop : opField t.u = 0o74 := (congrArg opField k.u).trans hj
    exact ⟨hlock, k.inst, hpanel.jumpKey, hpanel.stopKey, k.schedule, fun hne => absurd hop hne,
      fun _ => ⟨k.a, k.q, k.b⟩⟩

end Sys2Proof.Proofs.ControlState
end

section
/-!
The invariant (spec/10_state.md section 4): it holds at reset, and every step keeps it.  The idea: between the boundary and
the end of the step the panel may show a single step begun, so a weaker condition on the panel holds there, and what follows
the instruction restores the stronger one.
-/

namespace Sys2Proof.Proofs.Invariant

open Sys2Proof Sys2Proof.Machine Sys2Proof.Proofs.BufferAgent Sys2Proof.Proofs.Encoding
open Sys2Proof.Proofs.InstructionFrames Sys2Proof.Proofs.ControlState

/-! ### The two conditions on the panel -/

/-- The panel at the end of a step. -/
structure Idle (p : Panel) : Prop where
  pending : p.slsPending = true → p.run = .stopped ∧ p.uSet = false
  stepped : p.stepOne = false
  operatorU : p.uSet = true → p.run = .stopped

/-- The panel in the middle of a step: START or STEP may have been pressed. -/
structure Engaged (p : Panel) : Prop where
  pending : p.slsPending = true → p.uSet = false
  stepped : p.stepOne = true → p.run = .running
  operatorU : p.uSet = true → p.run = .stopped ∨ p.stepOne = true

theorem inv_iff {s : State} : s.Inv ↔ Sound s ∧ Idle s.panel :=
  ⟨fun h => ⟨⟨h.storage, h.noOddFault, h.noEvenFault, h.clock, h.readerUser, h.punchUser, h.reader⟩,
      ⟨h.pending, h.stepped, h.operatorU⟩⟩,
    fun ⟨h, p⟩ => ⟨h.storage, h.noOddFault, h.noEvenFault, h.clock, p.pending, p.stepped, p.operatorU, h.readerUser,
      h.punchUser, h.reader⟩⟩

theorem Idle.engaged {p : Panel} (h : Idle p) : Engaged p :=
  ⟨fun hp => (h.pending hp).2, fun ho => absurd ho (by rw [h.stepped]; exact Bool.false_ne_true),
    fun hu => .inl (h.operatorU hu)⟩

/-- In a stopped computer no single step has begun. -/
theorem Engaged.idle_of_stopped {p : Panel} (h : Engaged p) (hr : p.run = .stopped) : Idle p where
  pending hp := ⟨hr, h.pending hp⟩
  stepped := Bool.eq_false_of_not_eq_true fun ho => RunState.noConfusion (hr.symm.trans (h.stepped ho))
  operatorU _ := hr

/-- What holds in the middle of a step. -/
structure Live (s : State) : Prop where
  sound : Sound s
  panel : Engaged s.panel

/-! ### The boundary -/

theorem serve_live {s : State} (h : Live s) (x : Transfer) : NextIn (s.serve x) Live := by
  intro t ht
  have k := serve_attended ht
  refine ⟨h.sound.attended k, ?_⟩
  rw [k.frame]
  exact h.panel

theorem serveAll_live {s : State} (h : Live s) (ts : List Transfer) : NextIn (s.serveAll ts) Live := by
  intro t ht
  have k := serveAll_attended ht
  refine ⟨h.sound.attended k, ?_⟩
  rw [k.frame]
  exact h.panel

theorem manual_live {s t : State} (h : s.panel.run = .stopped → Live t) : NextIn (s.manual t) Live := by
  unfold State.manual
  split
  · exact .refused _
  · exact .next (h ‹_›)

theorem manualControl_live {s t : State} (h : s.panel.run = .stopped → s.panel.slsPending = false → Live t) :
    NextIn (s.manualControl t) Live := by
  unfold State.manualControl
  split
  · exact .refused _
  · split
    · exact .refused _
    · exact .next (h ‹_› (Bool.eq_false_of_not_eq_true ‹_›))

theorem stepKey_live {s : State} (h : Live s) : Live s.stepKey := by
  unfold State.stepKey
  split
  · exact ⟨{ h.sound with }, ⟨fun _ => rfl, fun ho => Bool.noConfusion ho, fun hu => Bool.noConfusion hu⟩⟩
  · exact ⟨{ h.sound with }, ⟨h.panel.pending, fun _ => rfl, fun _ => .inr rfl⟩⟩

theorem clockPulse_live {s : State} (h : Live s) : Live s.clockPulse := by
  refine ⟨{ h.sound with clock := fun hr => ?_ }, h.panel⟩
  rcases Bool.or_eq_true _ _ |>.mp hr with hold | hnew
  · exact h.sound.clock hold
  · exact (Bool.and_eq_true _ _ |>.mp hnew).1

theorem internalMasterClear_live {s : State} (h : Live s) : Live s.internalMasterClear :=
  ⟨{ h.sound with noOddFault := rfl, noEvenFault := rfl, clock := fun hr => Bool.noConfusion hr },
    ⟨fun _ => rfl, fun ho => Bool.noConfusion ho, fun hu => Bool.noConfusion hu⟩⟩

theorem externalMasterClear_live {s : State} (h : Live s) : Live s.externalMasterClear := by
  refine ⟨{ h.sound with
    readerUser := fun d hd => ?_, punchUser := fun d hd => ?_, reader := fun ha => Bool.noConfusion ha }, h.panel⟩
  · cases hd
    exact ⟨rfl, rfl⟩
  · cases hd

/-- Every event keeps it, whatever the operator and the equipment do. -/
theorem apply_live {s : State} (h : Live s) (e : Event) : NextIn (s.apply e) Live := by
  have sound := h.sound
  have panel := h.panel
  cases e with
  | transfer t => exact serve_live h t
  | clockPulse => exact .next (clockPulse_live h)
  | interruptLine c on => exact .next ⟨{ sound with }, panel⟩
  | condition y present => exact .next ⟨{ sound with }, panel⟩
  | clearInternal => exact .next (internalMasterClear_live h)
  | clearExternal => exact .next (externalMasterClear_live h)
  | start => exact .next ⟨{ sound with }, ⟨fun _ => rfl, fun ho => Bool.noConfusion ho, fun hu => Bool.noConfusion hu⟩⟩
  | step => exact .next (stepKey_live h)
  | setA w => exact manual_live fun _ => ⟨{ sound with }, panel⟩
  | setQ w => exact manual_live fun _ => ⟨{ sound with }, panel⟩
  | setB i v => exact manual_live fun _ => ⟨{ sound with }, panel⟩
  | setP v => exact manualControl_live fun _ _ => ⟨{ sound with }, panel⟩
  | setU w =>
    refine manualControl_live fun hr hp => ⟨{ sound with }, ⟨fun hp' => ?_, panel.stepped, fun _ => .inl hr⟩⟩
    exact Bool.noConfusion (hp.symm.trans hp')
  | jumpKey k on => exact .next ⟨{ sound with }, ⟨panel.pending, panel.stepped, panel.operatorU⟩⟩
  | stopKey k on => exact .next ⟨{ sound with }, ⟨panel.pending, panel.stepped, panel.operatorU⟩⟩
  | readerMode m => exact .next ⟨{ sound with }, panel⟩
  | readerMotor on => exact .next ⟨{ sound with }, panel⟩
  | loadTape frames => exact .next ⟨{ sound with }, panel⟩
  | punchMotor on => exact .next ⟨{ sound with }, panel⟩
  | punchSwitch on => exact .next ⟨{ sound with }, panel⟩
  | punchOutOfTape on => exact .next ⟨{ sound with }, panel⟩

theorem applyAll_live {s : State} (h : Live s) (es : List Event) : NextIn (s.applyAll es) Live := by
  induction es generalizing s with
  | nil => exact .next h
  | cons e es ih => exact .andThen <| (apply_live h e).mono fun _ h1 => ih h1

theorem interruptEntry_live {s : State} (h : Live s) : NextIn s.interruptEntry Live :=
  .andThen <| .writeAddr fun _ hm =>
    .next ⟨{ h.sound with storage := hm h.sound.storage, clock := fun hr => Bool.noConfusion hr }, h.panel⟩

theorem recognize_live {s : State} (h : Live s) (late : Bool) : NextIn (s.recognize late) Live := by
  unfold State.recognize
  split
  · exact interruptEntry_live h
  · exact .next h

theorem scanInterrupt_live {s : State} (h : Live s) (late : Bool) : NextIn (s.scanInterrupt late) Live := by
  unfold State.scanInterrupt
  split
  · exact recognize_live h late
  · exact .next h

theorem closeBoundary_live {s : State} (h : Live s) : NextIn s.closeBoundary Live := by
  unfold State.closeBoundary
  split
  · exact .andThen <| (recognize_live h true).mono fun _ h1 => .next ⟨{ h1.sound with }, h1.panel⟩
  · exact .next h

theorem passBoundary_live {s : State} (h : Live s) (x : Boundary) : NextIn (s.passBoundary x) Live :=
  .andThen <| (applyAll_live h x.events).mono fun _ h1 =>
    .andThen <| (scanInterrupt_live h1 x.late).mono fun _ h2 =>
      .andThen <| (serveAll_live h2 x.after).mono fun _ h3 => closeBoundary_live h3

/-! ### The instruction and what follows it -/

/-- What the end of a step adds to the instruction: the panel with a single step over. -/
theorem finish_panel (s : State) (p0 : Addr) :
    (s.finish p0).panel =
      if s.panel.stepOne then { s.panel with run := .stopped, stepOne := false, uSet := false } else s.panel := by
  unfold State.finish
  by_cases hr : s.panel.run = .running
  · rw [if_pos hr]
    cases ho : s.panel.stepOne <;> simp [ho]
  · rw [if_neg hr]
    cases ho : s.panel.stepOne <;> simp [ho]

theorem endLockout_sound {s : State} (h : Sound s) (p0 : Addr) : Sound (s.endLockout p0) := by
  rw [State.endLockout_eq]
  exact { h with }

theorem finish_sound {s : State} (h : Sound s) (p0 : Addr) : Sound (s.finish p0) := by
  have h1 : Sound (if s.panel.run = .running then s.endLockout p0 else s) := by
    split
    · exact endLockout_sound h p0
    · exact h
  unfold State.finish
  generalize (if s.panel.run = .running then s.endLockout p0 else s) = s1 at h1
  show Sound (State.setFree (if s1.panel.stepOne then _ else s1) _)
  split
  · exact { h1 with }
  · exact { h1 with }

/-- The end of a step: no word waits in U, and a pending jump waits in a stopped computer. -/
theorem finish_inv {s : State} (h : Sound s) (hu : s.panel.uSet = false)
    (hp : s.panel.slsPending = true → s.panel.run = .stopped) (p0 : Addr) : (s.finish p0).Inv := by
  refine inv_iff.2 ⟨finish_sound h p0, ?_⟩
  rw [finish_panel]
  cases ho : s.panel.stepOne with
  | true => exact ⟨fun _ => ⟨rfl, rfl⟩, rfl, fun _ => rfl⟩
  | false => exact ⟨fun hs => ⟨hp hs, hu⟩, ho, fun hu' => Bool.noConfusion (hu.symm.trans hu')⟩

theorem perform_inv {s : State} (h : Live s) (hp : s.panel.slsPending = false) (w : Word) :
    NextIn (s.perform w) State.Inv := by
  refine .andThen fun t ht => .next ?_
  have hs : ((s.setU w).setPanel { s.panel with uSet := false }).u = encode (decode w) := (encode_decode w).symm
  have hpanel := exec_keeps_panel hs ht
  refine finish_inv (exec_keeps_sound hs ht { h.sound with }) ?_ ?_ s.p
  · exact Bool.eq_false_of_not_eq_true fun hu => Bool.noConfusion (hpanel.uSet hu)
  · intro hpending
    exact (hpanel.pending hpending).resolve_left fun hp' => Bool.noConfusion (hp.symm.trans hp')

theorem runInstruction_inv {s : State} (h : Live s) (hp : s.panel.slsPending = false) :
    NextIn s.runInstruction State.Inv := by
  unfold State.runInstruction
  split
  · exact perform_inv h hp _
  · exact .withRead fun w => perform_inv h hp w

/-- The jump of an SLS: nothing is pending after it. -/
theorem pendingJump_inv {s : State} (h : Live s) (hp : s.panel.slsPending = true) (p0 : Addr) :
    NextIn (andThen s.pendingJump fun t => .next (t.finish p0)) State.Inv := by
  refine .andThen fun t ht => .next ?_
  have cleared : Sound (s.setPanel { s.panel with slsPending := false }) := { h.sound with }
  have k := (Ran.refl (s.setPanel { s.panel with slsPending := false })).jumpKind _ _ t ht
  refine finish_inv (k.sound cleared) ?_ ?_ p0
  · exact Bool.eq_false_of_not_eq_true fun hu =>
      Bool.noConfusion ((h.panel.pending hp).symm.trans (k.panel.uSet hu))
  · intro hpending
    exact (k.panel.pending hpending).resolve_left fun h' => Bool.noConfusion h'

theorem proceed_inv {s : State} (h : Live s) : NextIn s.proceed State.Inv := by
  unfold State.proceed
  split
  · exact .next (inv_iff.2 ⟨h.sound, h.panel.idle_of_stopped ‹_›⟩)
  · split
    · exact pendingJump_inv h ‹_› s.p
    · exact runInstruction_inv h (Bool.eq_false_of_not_eq_true ‹_›)

/-- Settles O57: at reset nothing is set but the reader's selection. -/
theorem invariantAtReset : Obligations.InvariantAtReset where
  storage := rfl
  noOddFault := rfl
  noEvenFault := rfl
  clock h := Bool.noConfusion h
  pending h := Bool.noConfusion h
  stepped := rfl
  operatorU h := Bool.noConfusion h
  readerUser d hd := by
    cases hd
    exact ⟨rfl, rfl⟩
  punchUser d hd := nomatch hd
  reader h := Bool.noConfusion h

/-- Settles O58: the boundary keeps the weaker condition, and the instruction with what follows it restores the
invariant. -/
theorem stepKeepsInvariant : Obligations.StepKeepsInvariant := by
  intro s t h ht
  obtain ⟨sound, panel⟩ := inv_iff.1 h
  have live : Live s.popBoundary := ⟨{ sound with }, panel.engaged⟩
  obtain ⟨s1, h1, h2⟩ := andThen_eq_next.1 ht
  exact proceed_inv (passBoundary_live live s.nextBoundary s1 h1) t h2

end Sys2Proof.Proofs.Invariant
end

section
/-!
Sums, products and quotients (spec/00_scope.md R9 to R12, spec/42_full_word_arithmetic.md R152, R153, R156).  The idea: a
one's complement pattern is a sign and a magnitude, and multiplication and division treat the two apart.
-/

namespace Sys2Proof.Proofs.SignAndMagnitude

open Sys2Proof Sys2Proof.Machine Sys2Proof.Proofs.Overflow

/-! ### Sums -/

theorem add24_comm (x y : Word) : add24 x y = add24 y x := by
  apply BitVec.eq_of_toNat_eq
  rw [toNat_add24, toNat_add24, Nat.add_comm]

/-- A pattern and its complement sum to 2^24 - 1, which a subtractive accumulator gives as positive zero. -/
theorem add24_cpl24 (x : Word) : add24 x (cpl24 x) = 0 := by
  have hx := x.isLt
  have hsum : x.toNat + (cpl24 x).toNat = 2 ^ 24 - 1 := by
    rw [cpl24, BitVec.toNat_not]
    omega
  apply BitVec.eq_of_toNat_eq
  rw [toNat_add24, hsum]
  rfl

/-- Negative zero comes of two negative zeros only. -/
theorem addOc_eq_allOnes_iff {n : Nat} (hn : 0 < n) (x y : BitVec n) :
    addOc x y = BitVec.allOnes n ↔ x = BitVec.allOnes n ∧ y = BitVec.allOnes n := by
  have hpow : 2 ≤ 2 ^ n := Nat.pow_le_pow_right (by decide : 0 < 2) hn
  have hx := x.isLt
  have hy := y.isLt
  simp only [← BitVec.toNat_inj, toNat_addOc, BitVec.toNat_allOnes]
  split_ifs <;> omega

/-- Settles O4. -/
theorem additionNormalisesZero : Obligations.AdditionNormalisesZero :=
  ⟨add24_comm, fun x => ⟨add24_cpl24 x, add24_cpl24 x⟩, addOc_eq_allOnes_iff (by decide),
    addOc_eq_allOnes_iff (by decide)⟩

/-! ### Sign and magnitude -/

/-- The number of a sign and a magnitude. -/
def signed (negative : Bool) (n : Nat) : Int := if negative then -(n : Int) else n

theorem natAbs_signed (c : Bool) (n : Nat) : (signed c n).natAbs = n := by
  cases c <;> simp [signed]

theorem signed_ne_zero_iff (c : Bool) (n : Nat) : signed c n ≠ 0 ↔ n ≠ 0 := by
  cases c <;> simp [signed]

theorem signed_neg_iff (c : Bool) (n : Nat) : signed c n < 0 ↔ c = true ∧ n ≠ 0 := by
  cases c with
  | false => simp [signed]
  | true =>
    simp only [signed, if_true, true_and]
    omega

/-- The rule of signs. -/
theorem signed_mul (c d : Bool) (m n : Nat) : signed c m * signed d n = signed (c != d) (m * n) := by
  cases c <;> cases d <;> simp [signed]

theorem signed_add (c : Bool) (m n : Nat) : signed c m + signed c n = signed c (m + n) := by
  cases c with
  | false => simp [signed]
  | true =>
    simp only [signed, if_true]
    omega

theorem val24_eq_signed (x : Word) : val24 x = signed (signBit x) (mag x).toNat := by
  unfold val24 mag signed
  split <;> simp [*]

theorem val48_eq_signed (d : Long) : val48 d = signed (d.getLsbD 47) (mag48 d).toNat := by
  unfold val48 mag48 signed
  split <;> simp [*]

theorem mag_lt (x : Word) : (mag x).toNat < 2 ^ 23 := by
  have hcap := val24_within_capacity x
  have habs : (val24 x).natAbs = (mag x).toNat := by rw [val24_eq_signed, natAbs_signed]
  omega

/-- A magnitude that leaves the sign bit clear is the pattern of its positive value, and its complement of its negative
one. -/
theorem val24_of_magnitude {p : Word} (h : p.toNat < 2 ^ 23) (c : Bool) :
    val24 (if c then cpl24 p else p) = signed c p.toNat := by
  have hp : signBit p = false := (signBit_eq_false_iff p).2 h
  cases c with
  | false => exact val24_of_positive hp
  | true =>
    have hc : signBit (cpl24 p) = true := by
      rw [signBit_eq_true_iff, cpl24, BitVec.toNat_not]
      omega
    have hcc : cpl24 (cpl24 p) = p := BitVec.not_not
    show val24 (cpl24 p) = -(p.toNat : Int)
    rw [val24, if_pos hc, hcc]

theorem val48_of_magnitude {p : Long} (h : p.toNat < 2 ^ 47) (c : Bool) :
    val48 (if c then ~~~p else p) = signed c p.toNat := by
  have hp : p.getLsbD 47 = false := by
    rw [show p.getLsbD 47 = p.msb from (BitVec.msb_eq_getLsbD_last p).symm, BitVec.msb_eq_decide]
    exact decide_eq_false (by omega)
  cases c with
  | false =>
    show val48 p = (p.toNat : Int)
    rw [val48, if_neg (by rw [hp]; exact Bool.false_ne_true)]
  | true =>
    have hc : (~~~p).getLsbD 47 = true := by rw [BitVec.getLsbD_not, hp]; rfl
    show val48 (~~~p) = -(p.toNat : Int)
    rw [val48, if_pos hc, BitVec.not_not]

/-! ### The product -/

/-- Settles O6: the product of two magnitudes of 23 bits has no more than 46, and the signs multiply. -/
theorem productHasTheValue : Obligations.ProductHasTheValue := by
  intro a c
  have hlt : (mag a).toNat * (mag c).toNat < 2 ^ 23 * 2 ^ 23 := Nat.mul_lt_mul'' (mag_lt a) (mag_lt c)
  have hnat : (BitVec.ofNat 48 ((mag a).toNat * (mag c).toNat)).toNat = (mag a).toNat * (mag c).toNat := by
    rw [BitVec.toNat_ofNat]
    exact Nat.mod_eq_of_lt (by omega)
  calc val48 (product48 a c)
    _ = signed (signBit a != signBit c) (BitVec.ofNat 48 ((mag a).toNat * (mag c).toNat)).toNat :=
      val48_of_magnitude (by omega) _
    _ = val24 a * val24 c := by rw [hnat, val24_eq_signed a, val24_eq_signed c, signed_mul]

/-! ### The quotient and the remainder -/

theorem divideFaults_eq_true_iff (d : Long) (v : Word) :
    divideFaults d v = true ↔ (mag v).toNat = 0 ∨ 2 ^ 23 ≤ (mag48 d).toNat / (mag v).toNat := by
  simp [divideFaults]

/-- Without a fault the magnitudes of quotient and remainder fit a word. -/
theorem magnitudes_of_no_fault {d : Long} {v : Word} (h : divideFaults d v = false) :
    0 < (mag v).toNat ∧ (mag48 d).toNat / (mag v).toNat < 2 ^ 23 := by
  have hno := mt (divideFaults_eq_true_iff d v).2 (Bool.eq_false_iff.1 h)
  rw [not_or, not_le] at hno
  exact ⟨Nat.pos_of_ne_zero hno.1, hno.2⟩

theorem val24_quotient24 {d : Long} {v : Word} (h : divideFaults d v = false) :
    val24 (quotient24 d v) = signed (d.getLsbD 47 != signBit v) ((mag48 d).toNat / (mag v).toNat) := by
  obtain ⟨-, hlt⟩ := magnitudes_of_no_fault h
  have hnat : (BitVec.ofNat 24 ((mag48 d).toNat / (mag v).toNat)).toNat = (mag48 d).toNat / (mag v).toNat := by
    rw [BitVec.toNat_ofNat]
    exact Nat.mod_eq_of_lt (by omega)
  exact (val24_of_magnitude (by omega) _).trans (by rw [hnat])

theorem val24_remainder24 {d : Long} {v : Word} (h : divideFaults d v = false) :
    val24 (remainder24 d v) = signed (d.getLsbD 47) ((mag48 d).toNat % (mag v).toNat) := by
  obtain ⟨hpos, -⟩ := magnitudes_of_no_fault h
  have hv := mag_lt v
  have hmod := Nat.mod_lt (mag48 d).toNat hpos
  have hnat : (BitVec.ofNat 24 ((mag48 d).toNat % (mag v).toNat)).toNat = (mag48 d).toNat % (mag v).toNat := by
    rw [BitVec.toNat_ofNat]
    exact Nat.mod_eq_of_lt (by omega)
  exact (val24_of_magnitude (by omega) _).trans (by rw [hnat])

/-- Settles O7: the division of the magnitudes, with the signs put back. -/
theorem divisionTruncates : Obligations.DivisionTruncates := by
  intro d v
  have hd := val48_eq_signed d
  have hv := val24_eq_signed v
  refine ⟨?_, fun h => ?_⟩
  · have hzero : val24 v = 0 ↔ (mag v).toNat = 0 := by
      rw [hv]
      exact not_iff_not.1 (signed_ne_zero_iff _ _)
    rw [divideFaults_eq_true_iff, hzero, hd, hv, natAbs_signed, natAbs_signed]
  · obtain ⟨hpos, -⟩ := magnitudes_of_no_fault h
    have hq := val24_quotient24 h
    have hr := val24_remainder24 h
    refine ⟨?_, ?_, fun hne => ?_⟩
    · rw [hd, hq, hv, hr, signed_mul, Bool.bne_assoc, bne_self_eq_false, Bool.bne_false, signed_add,
        Nat.div_add_mod']
    · rw [hr, hv, natAbs_signed, natAbs_signed]
      exact Nat.mod_lt _ hpos
    · rw [hr, signed_ne_zero_iff] at hne
      have hdne : (mag48 d).toNat ≠ 0 := fun h0 => hne (by rw [h0, Nat.zero_mod])
      rw [hr, hd, signed_neg_iff, signed_neg_iff]
      exact ⟨fun hs => ⟨hs.1, hdne⟩, fun hs => ⟨hs.1, hne⟩⟩

end Sys2Proof.Proofs.SignAndMagnitude

/-!
Shifts and scaling (spec/00_scope.md R14, spec/45_shifting.md).  The idea: a rotation or a right shift by n + 1 places is
the one by n and one place more, at every width; and two equal bits at the top leave room to double.
-/

namespace Sys2Proof.Proofs.Shifts

open Sys2Proof Sys2Proof.Machine Sys2Proof.Proofs.Overflow

/-! ### One place more -/

/-- The stage from which each stage of a rotated pattern has its bit. -/
theorem getLsbD_rotateLeft_of_lt {w : Nat} (x : BitVec w) (r : Nat) {i : Nat} (hi : i < w) :
    (x.rotateLeft r).getLsbD i = x.getLsbD (if i < r % w then w - r % w + i else i - r % w) := by
  rw [BitVec.getLsbD_rotateLeft]
  split_ifs with h
  · simp [h]
  · simp [h, hi]

theorem mod_succ_cases {w : Nat} (hw : 0 < w) (n : Nat) :
    (n % w + 1 < w ∧ (n + 1) % w = n % w + 1) ∨ (n % w + 1 = w ∧ (n + 1) % w = 0) := by
  have hlt := Nat.mod_lt n hw
  rcases Nat.lt_or_ge (n % w + 1) w with h | h
  · exact .inl ⟨h, by rw [Nat.add_mod, Nat.mod_eq_of_lt (a := 1) (by omega), Nat.mod_eq_of_lt h]⟩
  · have heq : n % w + 1 = w := by omega
    refine .inr ⟨heq, ?_⟩
    rw [← Nat.mod_add_mod, heq, Nat.mod_self]

theorem rotateLeft_succ {w : Nat} (hw : 2 ≤ w) (x : BitVec w) (n : Nat) :
    x.rotateLeft (n + 1) = (x.rotateLeft n).rotateLeft 1 := by
  apply BitVec.eq_of_getLsbD_eq
  intro i hi
  have hlt := Nat.mod_lt n (by omega : 0 < w)
  rw [getLsbD_rotateLeft_of_lt _ _ hi, getLsbD_rotateLeft_of_lt _ _ hi, Nat.mod_eq_of_lt (a := 1) hw,
    getLsbD_rotateLeft_of_lt _ _ (by split_ifs <;> omega)]
  congr 1
  rcases mod_succ_cases (by omega : 0 < w) n with ⟨h, hr⟩ | ⟨h, hr⟩ <;> rw [hr] <;> split_ifs <;> omega

theorem rotateLeft_zero {w : Nat} (x : BitVec w) : x.rotateLeft 0 = x := by
  apply BitVec.eq_of_getLsbD_eq
  intro i hi
  rw [getLsbD_rotateLeft_of_lt _ _ hi, Nat.zero_mod]
  simp

/-- First one place and then n more. -/
theorem rotateLeft_one_rotateLeft {w : Nat} (hw : 2 ≤ w) (x : BitVec w) (n : Nat) :
    (x.rotateLeft 1).rotateLeft n = x.rotateLeft (n + 1) := by
  induction n with
  | zero => exact rotateLeft_zero _
  | succ n ih => rw [rotateLeft_succ hw, ih, ← rotateLeft_succ hw]

theorem leftOne24_eq (x : Word) : leftOne24 x = x.rotateLeft 1 := by
  apply BitVec.eq_of_getLsbD_eq
  intro i hi
  rw [getLsbD_rotateLeft_of_lt _ _ hi]
  simp only [leftOne24, BitVec.getLsbD_append, BitVec.getLsbD_extractLsb']
  by_cases h0 : i = 0
  · simp [h0]
  · have h1 : ¬i < 1 := by omega
    have h2 : i - 1 < 23 := by omega
    simp [h1, h2]

theorem leftOne48_eq (x : Long) : leftOne48 x = x.rotateLeft 1 := by
  apply BitVec.eq_of_getLsbD_eq
  intro i hi
  rw [getLsbD_rotateLeft_of_lt _ _ hi]
  simp only [leftOne48, BitVec.getLsbD_append, BitVec.getLsbD_extractLsb']
  by_cases h0 : i = 0
  · simp [h0]
  · have h1 : ¬i < 1 := by omega
    have h2 : i - 1 < 47 := by omega
    simp [h1, h2]

theorem rightOne24_eq (x : Word) : rightOne24 x = x.sshiftRight 1 := by
  apply BitVec.eq_of_getLsbD_eq
  intro i hi
  have hge : ¬24 ≤ i := by omega
  simp only [rightOne24, BitVec.getLsbD_append, BitVec.getLsbD_extractLsb', BitVec.getLsbD_sshiftRight,
    BitVec.msb_eq_getLsbD_last]
  by_cases h : i < 23
  · have h1 : 1 + i < 24 := by omega
    simp [h, h1, hge]
  · have h1 : i = 23 := by omega
    simp [h1]

theorem rightOne48_eq (x : Long) : rightOne48 x = x.sshiftRight 1 := by
  apply BitVec.eq_of_getLsbD_eq
  intro i hi
  have hge : ¬48 ≤ i := by omega
  simp only [rightOne48, BitVec.getLsbD_append, BitVec.getLsbD_extractLsb', BitVec.getLsbD_sshiftRight,
    BitVec.msb_eq_getLsbD_last]
  by_cases h : i < 47
  · have h1 : 1 + i < 48 := by omega
    simp [h, h1, hge]
  · have h1 : i = 47 := by omega
    simp [h1]

/-- A right shift by the width less one or more leaves the sign in every stage. -/
theorem sshiftRight_saturates {w : Nat} (x : BitVec w) {n : Nat} (h : w - 1 ≤ n) :
    x.sshiftRight n = if x.msb then BitVec.allOnes w else 0 := by
  apply BitVec.eq_of_getLsbD_eq
  intro i hi
  have hge : ¬w ≤ i := by omega
  rw [BitVec.getLsbD_sshiftRight]
  have hbit : (if n + i < w then x.getLsbD (n + i) else x.msb) = x.msb := by
    split
    · rw [BitVec.msb_eq_getLsbD_last]
      congr 1
      omega
    · rfl
  rw [hbit]
  cases x.msb <;> simp [hge, hi]

/-- Settles O8: at both widths, one more place is one one-place shift. -/
theorem shiftsAreOnePlaceShifts : Obligations.ShiftsAreOnePlaceShifts := by
  refine ⟨fun x n => ⟨BitVec.sshiftRight_zero, ?_, rotateLeft_zero x, ?_, ?_, fun h => ?_⟩,
    fun x n => ⟨BitVec.sshiftRight_zero, ?_, rotateLeft_zero x, ?_, ?_, fun h => ?_⟩⟩
  · rw [rightOne24_eq]
    exact BitVec.sshiftRight_add
  · rw [leftOne24_eq]
    exact rotateLeft_succ (by decide) x n
  · exact BitVec.rotateLeft_mod_eq_rotateLeft.symm
  · rw [signBit, ← BitVec.msb_eq_getLsbD_last]
    exact sshiftRight_saturates x h
  · rw [rightOne48_eq]
    exact BitVec.sshiftRight_add
  · rw [leftOne48_eq]
    exact rotateLeft_succ (by decide) x n
  · exact BitVec.rotateLeft_mod_eq_rotateLeft.symm
  · rw [← BitVec.msb_eq_getLsbD_last]
    exact sshiftRight_saturates x h

/-! ### Scaling -/

/-- The value of a one's complement pattern of any width. -/
def val {w : Nat} (x : BitVec w) : Int := if x.getLsbD (w - 1) then -((~~~x).toNat : Int) else x.toNat

/-- The loop of SCA and SCQ at any width. -/
def scale {w : Nat} : Nat → BitVec w → BitVec w × Nat
  | 0, x => (x, 0)
  | c + 1, x => if x.getLsbD (w - 1) = x.getLsbD (w - 2) then scale c (x.rotateLeft 1) else (x, c + 1)

theorem scale24_eq (c : Nat) (x : Word) : scale24 c x = scale c x := by
  induction c generalizing x with
  | zero => rfl
  | succ c ih => rw [scale24, ih]; rfl

theorem scale48_eq (c : Nat) (x : Long) : scale48 c x = scale c x := by
  induction c generalizing x with
  | zero => rfl
  | succ c ih => rw [scale48, ih]; rfl

/-- With the two top bits clear a rotation by one place doubles the number. -/
theorem toNat_rotateLeft_one_of_small {w : Nat} (hw : 2 ≤ w) (x : BitVec w) (h : x.toNat < 2 ^ (w - 2)) :
    (x.rotateLeft 1).toNat = 2 * x.toNat ∧ (x.rotateLeft 1).toNat < 2 ^ (w - 1) := by
  have h1 : 2 ^ (w - 1) = 2 * 2 ^ (w - 2) := by rw [← pow_succ']; congr 1; omega
  have h2 : 2 ^ w = 2 * 2 ^ (w - 1) := by rw [← pow_succ']; congr 1; omega
  have hhigh : x.toNat >>> (w - 1) = 0 := by
    rw [Nat.shiftRight_eq_div_pow]
    exact Nat.div_eq_of_lt (by omega)
  rw [BitVec.toNat_rotateLeft, Nat.mod_eq_of_lt (a := 1) hw, hhigh, Nat.or_zero, Nat.shiftLeft_eq, pow_one,
    Nat.mod_eq_of_lt (by omega)]
  omega

theorem getLsbD_top_eq_false_iff {w : Nat} (x : BitVec w) :
    x.getLsbD (w - 1) = false ↔ x.toNat < 2 ^ (w - 1) := by
  rw [← BitVec.msb_eq_getLsbD_last, BitVec.msb_eq_decide, decide_eq_false_iff_not, not_le]

/-- The second bit is clear too: the number is less than a quarter of the range. -/
theorem toNat_lt_of_top_two {w : Nat} (hw : 2 ≤ w) {x : BitVec w} (h1 : x.getLsbD (w - 1) = false)
    (h2 : x.getLsbD (w - 2) = false) : x.toNat < 2 ^ (w - 2) := by
  have hlt := (getLsbD_top_eq_false_iff x).1 h1
  have hp : 2 ^ (w - 1) = 2 * 2 ^ (w - 2) := by rw [← pow_succ']; congr 1; omega
  rw [BitVec.getLsbD, Nat.testBit_eq_decide_div_mod_eq, decide_eq_false_iff_not] at h2
  by_contra hge
  have hone : x.toNat / 2 ^ (w - 2) = 1 := Nat.div_eq_of_lt_le (by omega) (by omega)
  exact h2 (by rw [hone])

theorem not_rotateLeft_one {w : Nat} (hw : 2 ≤ w) (x : BitVec w) : ~~~(x.rotateLeft 1) = (~~~x).rotateLeft 1 := by
  apply BitVec.eq_of_getLsbD_eq
  intro i hi
  have hj : (if i < 1 % w then w - 1 % w + i else i - 1 % w) < w := by
    rw [Nat.mod_eq_of_lt (a := 1) hw]
    split_ifs <;> omega
  rw [BitVec.getLsbD_not, getLsbD_rotateLeft_of_lt _ _ hi, getLsbD_rotateLeft_of_lt _ _ hi, BitVec.getLsbD_not]
  simp [hi, hj]

/-- Where the bit below the sign equals it, a rotation by one place doubles the value (R187). -/
theorem val_rotateLeft_one {w : Nat} (hw : 2 ≤ w) (x : BitVec w) (h : x.getLsbD (w - 1) = x.getLsbD (w - 2)) :
    val (x.rotateLeft 1) = 2 * val x := by
  cases hs : x.getLsbD (w - 1) with
  | false =>
    obtain ⟨hdouble, hlt⟩ := toNat_rotateLeft_one_of_small hw x (toNat_lt_of_top_two hw hs (h.symm.trans hs))
    have htop := (getLsbD_top_eq_false_iff _).2 hlt
    simp only [val, hs, htop, Bool.false_eq_true, if_false]
    omega
  | true =>
    have hs' : (~~~x).getLsbD (w - 1) = false := by rw [BitVec.getLsbD_not, hs]; simp
    have h2' : (~~~x).getLsbD (w - 2) = false := by rw [BitVec.getLsbD_not, ← h, hs]; simp
    obtain ⟨hdouble, hlt⟩ := toNat_rotateLeft_one_of_small hw (~~~x) (toNat_lt_of_top_two hw hs' h2')
    have hcomplement := (getLsbD_top_eq_false_iff _).2 hlt
    rw [← not_rotateLeft_one hw, BitVec.getLsbD_not] at hcomplement
    have hin : w - 1 < w := by omega
    have htop : (x.rotateLeft 1).getLsbD (w - 1) = true := by simpa [hin] using hcomplement
    simp only [val, hs, htop, if_true, not_rotateLeft_one hw]
    omega

/-- What the loop answers for a count and a pattern: the count left and the pattern shifted by the rest of it, the value
doubled at each place, and where it stopped. -/
structure Scaled {w : Nat} (k : Nat) (x : BitVec w) (r : BitVec w × Nat) : Prop where
  le : r.2 ≤ k
  shifted : r.1 = x.rotateLeft (k - r.2)
  value : val r.1 = val x * 2 ^ (k - r.2)
  normal : r.2 = 0 ∨ r.1.getLsbD (w - 1) ≠ r.1.getLsbD (w - 2)
  minimal : ∀ j, j < k - r.2 → (x.rotateLeft j).getLsbD (w - 1) = (x.rotateLeft j).getLsbD (w - 2)

theorem scale_scaled {w : Nat} (hw : 2 ≤ w) (k : Nat) (x : BitVec w) : Scaled k x (scale k x) := by
  induction k generalizing x with
  | zero =>
    refine ⟨Nat.le_refl 0, (rotateLeft_zero x).symm, (mul_one _).symm, .inl rfl, ?_⟩
    exact fun j hj => absurd hj (Nat.not_lt_zero j)
  | succ k ih =>
    rw [scale]
    split
    · rename_i hbits
      obtain ⟨hle, hshifted, hvalue, hnormal, hminimal⟩ := ih (x.rotateLeft 1)
      have hk : k + 1 - (scale k (x.rotateLeft 1)).2 = k - (scale k (x.rotateLeft 1)).2 + 1 := by omega
      refine ⟨by omega, ?_, ?_, hnormal, ?_⟩
      · rw [hk]
        exact hshifted.trans (rotateLeft_one_rotateLeft hw x _)
      · rw [hk, hvalue, val_rotateLeft_one hw x hbits, pow_succ]
        ring
      · intro j hj
        cases j with
        | zero =>
          rw [rotateLeft_zero]
          exact hbits
        | succ j =>
          rw [← rotateLeft_one_rotateLeft hw]
          exact hminimal j (by omega)
    · rename_i hbits
      refine ⟨Nat.le_refl _, ?_, ?_, .inr hbits, ?_⟩
      · rw [Nat.sub_self, rotateLeft_zero]
      · rw [Nat.sub_self, pow_zero, mul_one]
      · exact fun j hj => absurd hj (by simp)

/-- A pattern left alone is scaled by no place. -/
theorem unscaled {w : Nat} (k : Nat) (x : BitVec w) :
    k ≤ k ∧ x = x.rotateLeft (k - k) ∧ val x = val x * 2 ^ (k - k) ∧
      ∀ j, j < k - k → (x.rotateLeft j).getLsbD (w - 1) = (x.rotateLeft j).getLsbD (w - 2) := by
  rw [Nat.sub_self, rotateLeft_zero, pow_zero, mul_one]
  exact ⟨Nat.le_refl k, rfl, rfl, fun j hj => absurd hj (Nat.not_lt_zero j)⟩

/-- The patterns of value zero are the two zeros. -/
theorem val48_eq_zero_iff (t : Long) : val48 t = 0 ↔ t = 0 ∨ t = BitVec.allOnes 48 := by
  constructor
  · intro h
    unfold val48 at h
    split at h
    · refine .inr ?_
      have hz : ~~~t = 0 := BitVec.eq_of_toNat_eq (by simpa using h)
      rw [← BitVec.not_not (b := t), hz]
      rfl
    · exact .inl (BitVec.eq_of_toNat_eq (by simpa using h))
  · rintro (rfl | rfl) <;> decide

/-- Settles O9: the loop, and before it the test for zero. -/
theorem scalingNormalises : Obligations.ScalingNormalises := by
  refine ⟨fun a k => ?_, fun t k => ?_⟩
  · unfold scaleA
    cases hz : isZero a with
    | true =>
      obtain ⟨hle, hshifted, hvalue, hminimal⟩ := unscaled k.toNat a
      exact ⟨hle, hshifted, hvalue, fun _ => rfl, fun h => Bool.noConfusion h, hminimal⟩
    | false =>
      have hscaled := scale_scaled (by decide) k.toNat a
      rw [← scale24_eq] at hscaled
      exact ⟨hscaled.le, hscaled.shifted, hscaled.value, fun h => Bool.noConfusion h, fun _ => hscaled.normal,
        hscaled.minimal⟩
  · unfold scaleAQ
    by_cases hz : t = 0 ∨ t = BitVec.allOnes 48
    · rw [if_pos hz]
      obtain ⟨hle, hshifted, hvalue, hminimal⟩ := unscaled k.toNat t
      exact ⟨hle, hshifted, hvalue, fun _ => rfl, fun h => absurd ((val48_eq_zero_iff t).2 hz) h, hminimal⟩
    · rw [if_neg hz]
      have hscaled := scale_scaled (by decide) k.toNat t
      rw [← scale48_eq] at hscaled
      exact ⟨hscaled.le, hscaled.shifted, hscaled.value, fun h => absurd ((val48_eq_zero_iff t).1 h) hz,
        fun _ => hscaled.normal, hscaled.minimal⟩

end Sys2Proof.Proofs.Shifts
end

section
/-!
Storage and addresses (spec/20_memory.md section 1, spec/30_encoding.md R95, R96).  The idea for the indirect chain: it
visits 2^15 locations at most, so one that is still going after that many levels has come back to a location and goes on
for ever.
-/

namespace Sys2Proof.Proofs.Addresses

open Sys2Proof Sys2Proof.Machine Sys2Proof.Proofs.Overflow Sys2Proof.Proofs.SignAndMagnitude

/-! ### Storage -/

/-- Settles O10: both kinds of store write one location of the list. -/
theorem storageReadsAsWritten : Obligations.StorageReadsAsWritten := by
  intro s a n hn
  refine ⟨fun v => ?_, fun v => ?_⟩
  · refine ⟨_, State.writeWord_of_locate v hn, State.storedAt_write rfl, rfl, ?_⟩
    have hread : State.readWord { s with mem := s.mem.write n v } a = .ok ((s.mem.write n v).read n) :=
      State.readWord_of_locate hn
    rwa [Memory.read_write_same] at hread
  · have hstored : s.StoredAt { s with mem := s.mem.write n (withAddressPart (s.mem.read n) v) } n
        (withAddressPart (s.word n) v) := State.storedAt_write rfl
    refine ⟨_, State.writeAddr_of_locate v hn, hstored, rfl, ?_, ?_⟩ <;> rw [hstored.1]
    · exact addressPart_withAddressPart _ _
    · exact upper_withAddressPart _ _

/-- Under each policy, where an address beyond installed storage leads (R61, D1). -/
theorem locate_of_ge {i : Installation} {a : Addr} (h : i.size.words ≤ a.toNat) :
    i.locate a = match i.oob with
      | .fault => .missing
      | .wrap => .word (a.toNat % i.size.words)
      | .anyValue => .unknown :=
  if_neg (by omega)

theorem exec_lda_of_error {s : State} {a : Addr} {f : Fault} (h : s.readWord a = .error f) :
    exec (.lda 0 a) s = .fault f := by
  show execLda 0 a s = .fault f
  rw [execLda, State.withOperand, State.withModified_ok (State.resolve_direct s 0 a (by decide)),
    State.substitute_of_ne _ _ _ _ (by decide)]
  show s.withRead a _ = .fault f
  rw [State.withRead, h]

/-- A direct STA is the store and the exit. -/
theorem exec_sta_direct (s : State) (a : Addr) :
    exec (.sta 0 a) s = andThen (s.writeWord a s.a) fun t => .next t.exit := by
  show execSta 0 a s = _
  rw [execSta, State.withModified_ok (State.resolve_direct s 0 a (by decide)),
    State.substitute_of_ne _ _ _ _ (by decide)]
  rfl

/-- Settles O11. -/
theorem absentStorageFollowsPolicy : Obligations.AbsentStorageFollowsPolicy := by
  intro s a
  refine ⟨fun h => ?_, fun h => ⟨fun ho => ?_, fun ho => ?_, fun ho => ?_⟩⟩
  · have hloc := Installation.locate_of_lt h
    exact ⟨hloc, State.readWord_of_locate hloc⟩
  · have hloc := locate_of_ge h
    rw [ho] at hloc
    have hread : s.readWord a = .error (.storageAbsent a) := by rw [State.readWord, hloc]
    refine ⟨hread, exec_lda_of_error hread, ?_⟩
    rw [exec_sta_direct, State.writeWord, hloc]
    rfl
  · have hloc := locate_of_ge h
    rwa [ho] at hloc
  · have hloc := locate_of_ge h
    rw [ho] at hloc
    refine ⟨⟨Config.absentWord s.free a, by rw [State.Reads, State.readWord, hloc]⟩, ?_⟩
    rw [exec_sta_direct, State.writeWord, hloc]
    rfl

/-! ### Address modification -/

theorem modify_of_index {s : State} {d : Desig} {i : Index} (m : Addr) (h : indexOf d = some i) :
    s.modify d m = add15 m (s.b.get i) := by
  rw [State.modify, h]

theorem indexOf_eq_none_iff (d : Desig) : indexOf d = none ↔ d = 0 ∨ d = 7 := by
  revert d
  decide

/-- Negative zero added changes nothing but a zero. -/
theorem add15_negative_zero {m : Addr} (h0 : m ≠ 0) : add15 m 0o77777 = m := by
  have hm := m.isLt
  have hpos : m.toNat ≠ 0 := fun h => h0 (BitVec.eq_of_toNat_eq h)
  have hall : (0o77777 : Addr).toNat = 2 ^ 15 - 1 := rfl
  apply BitVec.eq_of_toNat_eq
  rw [add15, toNat_addOc, hall]
  split_ifs <;> omega

/-- Settles O12. -/
theorem modifyAddsTheRegister : Obligations.ModifyAddsTheRegister := fun s m =>
  ⟨rfl, modify_of_index (i := .b1) m rfl, modify_of_index (i := .b2) m rfl, modify_of_index (i := .b3) m rfl,
    modify_of_index (i := .b4) m rfl, modify_of_index (i := .b5) m rfl, modify_of_index (i := .b6) m rfl,
    fun _ _ => modify_of_index m, indexOf_eq_none_iff, fun h0 _ => add15_negative_zero h0,
    by decide, by decide, by decide, addOc_eq_allOnes_iff (by decide) m⟩

/-! ### The indirect chain -/

/-- Where the indirect chain goes from a location: to the address in its word, where that has designator 7. -/
def indirectStep (s : State) (a : Addr) : Option Addr :=
  match s.readWord a with
  | .ok w => if desigField w = 7 then some (addrField w) else none
  | .error _ => none

theorem indirectStep_eq_some_iff {s : State} {a a' : Addr} :
    indirectStep s a = some a' ↔ ∃ w, s.Reads a w ∧ desigField w = 7 ∧ addrField w = a' := by
  unfold indirectStep State.Reads
  cases s.readWord a <;> simp

/-- The location that a chain from `m` comes to after some levels, while it goes on. -/
def chainFrom (f : Addr → Option Addr) (m : Addr) : Nat → Option Addr
  | 0 => some m
  | k + 1 => (chainFrom f m k).bind f

section Chains

variable {f : Addr → Option Addr}

theorem chainFrom_succ_of_step {m a : Addr} (h : f m = some a) (k : Nat) :
    chainFrom f m (k + 1) = chainFrom f a k := by
  induction k with
  | zero => exact h
  | succ k ih => rw [chainFrom, ih, chainFrom]

theorem chainFrom_succ_of_end {m : Addr} (h : f m = none) (k : Nat) :
    chainFrom f m (k + 1) = none := by
  induction k with
  | zero => exact h
  | succ k ih => rw [chainFrom, ih, Option.bind_none]

/-- A chain that has got so far has passed all that comes before. -/
theorem chainFrom_isSome_of_le {m : Addr} {j k : Nat} (hjk : j ≤ k) (h : (chainFrom f m k).isSome) :
    (chainFrom f m j).isSome := by
  induction k, hjk using Nat.le_induction with
  | base => exact h
  | succ k _ ih =>
    refine ih ?_
    rw [chainFrom] at h
    cases hk : chainFrom f m k with
    | none => rw [hk] at h; exact h
    | some a => rfl

/-- Two places in the chain at one location go on alike. -/
theorem chainFrom_add {m : Addr} {i j : Nat} (h : chainFrom f m i = chainFrom f m j) (k : Nat) :
    chainFrom f m (i + k) = chainFrom f m (j + k) := by
  induction k with
  | zero => exact h
  | succ k ih => rw [← Nat.add_assoc, ← Nat.add_assoc, chainFrom, chainFrom, ih]

/-- A chain that reads 2^15 locations and goes on has met one of them twice. -/
theorem chainFrom_repeats {m : Addr} (h : (chainFrom f m maxLevels).isSome) :
    ∃ i j, i < j ∧ j ≤ maxLevels ∧ chainFrom f m i = chainFrom f m j := by
  have hmaps : Set.MapsTo (fun k => ((chainFrom f m k).getD 0).toNat) (Finset.range (maxLevels + 1) : Set Nat)
      (Finset.range maxLevels : Set Nat) := fun k _ => Finset.mem_coe.2 (Finset.mem_range.2 (BitVec.isLt _))
  have hcard : (Finset.range maxLevels).card < (Finset.range (maxLevels + 1)).card := by
    rw [Finset.card_range, Finset.card_range]
    exact Nat.lt_succ_self _
  obtain ⟨i, hi, j, hj, hne, heq⟩ := Finset.exists_ne_map_eq_of_card_lt_of_maps_to hcard hmaps
  rw [Finset.mem_range, Nat.lt_succ_iff] at hi hj
  obtain ⟨x, hx⟩ := Option.isSome_iff_exists.1 (chainFrom_isSome_of_le hi h)
  obtain ⟨y, hy⟩ := Option.isSome_iff_exists.1 (chainFrom_isSome_of_le hj h)
  have hxy : x = y := BitVec.eq_of_toNat_eq (by simpa [hx, hy] using heq)
  have hsame : chainFrom f m i = chainFrom f m j := by rw [hx, hy, hxy]
  rcases Nat.lt_or_gt_of_ne hne with hlt | hgt
  · exact ⟨i, j, hlt, hj, hsame⟩
  · exact ⟨j, i, hgt, hi, hsame.symm⟩

/-- So it never ends. -/
theorem chainFrom_isSome_of_maxLevels {m : Addr} (h : (chainFrom f m maxLevels).isSome) (n : Nat) :
    (chainFrom f m n).isSome := by
  obtain ⟨i, j, hij, hj, hsame⟩ := chainFrom_repeats h
  induction n using Nat.strong_induction_on with
  | _ n ih =>
    rcases Nat.le_total n maxLevels with hn | hn
    · exact chainFrom_isSome_of_le hn h
    · have hback := chainFrom_add hsame (n - j)
      rw [Nat.add_sub_cancel' (hj.trans hn)] at hback
      rw [← hback]
      exact ih _ (by omega)

end Chains

/-! ### `resolve` and the chain -/

/-- One level of the chain, where it goes on. -/
theorem resolveChain_of_step {s : State} {m a : Addr} (h : indirectStep s m = some a) (n : Nat) :
    s.resolveChain (n + 1) m = if a = m then .error .endlessIndirect else s.resolveChain n a := by
  obtain ⟨w, hw, hd, rfl⟩ := indirectStep_eq_some_iff.1 h
  rw [State.resolveChain, show s.readWord m = .ok w from hw]
  show (if desigField w = 7 then _ else _) = _
  rw [if_pos hd]

/-- And where it does not: what `resolve` answers there does not depend on the levels left. -/
theorem resolveChain_of_end {s : State} {m : Addr} (h : indirectStep s m = none) (n : Nat) :
    s.resolveChain (n + 1) m ≠ .error .endlessIndirect ∧
      s.resolveChain (n + 2) m = s.resolveChain (n + 1) m := by
  rw [State.resolveChain, State.resolveChain]
  cases hw : s.readWord m with
  | error f =>
    refine ⟨?_, rfl⟩
    rintro ⟨⟩
    rw [State.readWord] at hw
    split at hw <;> cases hw
  | ok w =>
    have hd : desigField w ≠ 7 := by
      intro hd
      have hstep := indirectStep_eq_some_iff.2 ⟨w, hw, hd, rfl⟩
      rw [h] at hstep
      exact nomatch hstep
    simp only [if_neg hd]
    exact ⟨(nomatch ·), trivial⟩

/-- Within some levels the endless chain is told exactly where the chain is still going after them. -/
theorem resolveChain_endless_iff (s : State) (n : Nat) (m : Addr) :
    s.resolveChain n m = .error .endlessIndirect ↔ (chainFrom (indirectStep s) m n).isSome := by
  induction n generalizing m with
  | zero => exact ⟨fun _ => rfl, fun _ => rfl⟩
  | succ n ih =>
    cases h : indirectStep s m with
    | none =>
      rw [chainFrom_succ_of_end h]
      exact ⟨fun he => absurd he (resolveChain_of_end h n).1, fun hs => Bool.noConfusion hs⟩
    | some a =>
      rw [resolveChain_of_step h, chainFrom_succ_of_step h]
      split
      · rename_i ham
        subst ham
        have hloop (k : Nat) : chainFrom (indirectStep s) a k = some a := by
          induction k with
          | zero => rfl
          | succ k ihk => rw [chainFrom_succ_of_step h, ihk]
        rw [hloop]
        exact ⟨fun _ => rfl, fun _ => rfl⟩
      · exact ih a

/-- A chain that ends gives the same answer however many more levels it may have. -/
theorem resolveChain_succ_of_ne {s : State} {n : Nat} {m : Addr}
    (h : s.resolveChain n m ≠ .error .endlessIndirect) : s.resolveChain (n + 1) m = s.resolveChain n m := by
  induction n generalizing m with
  | zero => exact absurd rfl h
  | succ n ih =>
    cases hs : indirectStep s m with
    | none => exact (resolveChain_of_end hs n).2
    | some a =>
      rw [resolveChain_of_step hs] at h ⊢
      rw [resolveChain_of_step hs]
      split
      · rfl
      · rw [if_neg ‹_›] at h
        exact ih h

theorem resolve_indirect (s : State) (m : Addr) : s.resolve 7 m = s.resolveChain maxLevels m := if_pos rfl

theorem resolve_endless_iff (s : State) (m : Addr) :
    s.resolve 7 m = .error .endlessIndirect ↔ ∀ n, (chainFrom (indirectStep s) m n).isSome := by
  rw [resolve_indirect, resolveChain_endless_iff]
  exact ⟨chainFrom_isSome_of_maxLevels, fun h => h maxLevels⟩

/-- One level on, `resolve` answers the same: an endless chain is endless from its second location too, and a chain that
ends has levels to spare. -/
theorem resolve_of_step {s : State} {m a : Addr} (h : indirectStep s m = some a) : s.resolve 7 m = s.resolve 7 a := by
  by_cases he : s.resolve 7 m = .error .endlessIndirect
  · have hall := (resolve_endless_iff s m).1 he
    rw [he, (resolve_endless_iff s a).2 fun n => chainFrom_succ_of_step h n ▸ hall (n + 1)]
  · rw [resolve_indirect] at he ⊢
    have hlevel : s.resolveChain maxLevels m = _ := resolveChain_of_step h 32767
    rw [hlevel] at he ⊢
    by_cases ham : a = m
    · exact absurd (if_pos ham) he
    · rw [if_neg ham] at he ⊢
      exact (resolveChain_succ_of_ne he).symm

/-- Settles O13. -/
theorem resolveFollowsTheChain : Obligations.ResolveFollowsTheChain := by
  intro s b m
  refine ⟨State.resolve_direct s b m, ?_, fun d m1 => State.resolve_ne⟩
  rintro rfl w hw
  by_cases hd : desigField w = 7
  · rw [hd]
    exact resolve_of_step (indirectStep_eq_some_iff.2 ⟨w, hw, hd, rfl⟩)
  · rw [State.resolve_direct s _ _ hd, resolve_indirect, maxLevels, State.resolveChain,
      show s.readWord m = .ok w from hw]
    exact if_neg hd

/-- Settles O14: an endless chain is a location for each number of levels. -/
theorem endlessChainIsEndless : Obligations.EndlessChainIsEndless := by
  intro s b m
  by_cases hb : b = 7
  · subst hb
    rw [resolve_endless_iff, and_iff_right rfl]
    constructor
    · intro hall
      refine ⟨fun n => (chainFrom (indirectStep s) m n).get (hall n), rfl, fun k => indirectStep_eq_some_iff.1 ?_⟩
      have hk := Option.some_get (hall k)
      have hk1 := Option.some_get (hall (k + 1))
      rw [hk1, chainFrom, ← hk, Option.bind_some]
    · rintro ⟨chain, rfl, hstep⟩ n
      have hchain (k : Nat) : chainFrom (indirectStep s) (chain 0) k = some (chain k) := by
        induction k with
        | zero => rfl
        | succ k ih => rw [chainFrom, ih, Option.bind_some, indirectStep_eq_some_iff.2 (hstep k)]
      rw [hchain]
      rfl
  · rw [State.resolve_direct s b m hb]
    exact ⟨(nomatch ·), fun h => absurd h.1 hb⟩

end Sys2Proof.Proofs.Addresses
end

section
/-!
The instructions whose operand is a word, an address or a count (spec/40_full_word_transmission.md to spec/46_replace.md).
The idea: once the designator is resolved the instruction goes on in the same state but for U, so its effect is computed
there.
-/

namespace Sys2Proof.Proofs.Operations

open Sys2Proof Sys2Proof.Machine Sys2Proof.Proofs.Shifts

/-! ### The operand forms -/

section Forms

variable {s : State} {b d : Desig} {m m1 : Addr} {w : Word}

/-- The state in which an instruction goes on after `resolve`: the last indirect word is in U (R27, R96). -/
def resolved (s : State) (b d : Desig) (m1 : Addr) : State := { s with u := s.uAfter b d m1 }

theorem withResolved_run {k : Desig → Addr → State → Result} (h : s.Resolves b m d m1) :
    s.withResolved b m k = k d m1 (resolved s b d m1) := by
  rw [State.withResolved_ok h, State.substitute_eq]
  rfl

theorem withIndex_run {k : Option Index → Addr → State → Result} (h : s.Resolves b m d m1) :
    s.withIndex b m k = k (indexOf d) m1 (resolved s b d m1) :=
  withResolved_run h

theorem withModified_run {k : Addr → State → Result} (h : s.Resolves b m d m1) :
    s.withModified b m k = k (s.modify d m1) (resolved s b d m1) :=
  withResolved_run h

theorem withOperand_run {k : Addr → Word → State → Result} (h : s.Resolves b m d m1)
    (hw : s.Reads (s.modify d m1) w) : s.withOperand b m k = k (s.modify d m1) w (resolved s b d m1) :=
  (withModified_run h).trans (State.withRead_ok (s := resolved s b d m1) hw)

theorem reads_of_leads {a : Addr} {n : Nat} (h : s.Leads a n) : s.Reads a (s.word n) := State.readWord_of_locate h

/-- A store in the course of an instruction: what follows goes on with the word stored, and nothing else is changed. -/
theorem writeWord_run {a : Addr} {n : Nat} {k : State → Result} (h : s.Leads a n) :
    andThen (s.writeWord a w) k = k { s with mem := s.mem.write n w } :=
  State.writeWord_then h

theorem writeAddr_run {a v : Addr} {n : Nat} {k : State → Result} (h : s.Leads a n) :
    andThen (s.writeAddr a v) k = k { s with mem := s.mem.write n (withAddressPart (s.word n) v) } :=
  State.writeAddr_then h

end Forms

/-! ### Loads and stores -/

/-- Settles O15. -/
theorem loadsComplete : Obligations.LoadsComplete := by
  intro s b d m m1 w h hw
  refine ⟨?_, ?_, ?_, ?_⟩
  · show execLda b m s = _
    exact withOperand_run h hw
  · show execLac b m s = _
    exact withOperand_run h hw
  · show execLdq b m s = _
    exact withOperand_run h hw
  · show execLqc b m s = _
    exact withOperand_run h hw

/-- A store of a full word: the word at the location, and the exit. -/
theorem store_run {s : State} {b d : Desig} {m m1 : Addr} {n : Nat} (v : State → Word)
    (hv : v (resolved s b d m1) = v s) (h : s.Resolves b m d m1) (hn : s.Leads (s.modify d m1) n) :
    ∃ t, (s.withModified b m fun a s1 => andThen (s1.writeWord a (v s1)) fun s2 => .next s2.exit) = .next t ∧
      s.StoredAt t n (v s) ∧ t = { s with mem := t.mem, p := s.next, u := s.uAfter b d m1 } := by
  refine ⟨_, (withModified_run h).trans (writeWord_run hn), ?_, rfl⟩
  rw [hv]
  exact State.storedAt_write rfl

/-- Settles O16. -/
theorem storesComplete : Obligations.StoresComplete := fun _ _ _ _ _ _ h hn =>
  ⟨store_run State.a rfl h hn, store_run State.q rfl h hn, store_run (fun s => s.q &&& s.a) rfl h hn⟩

/-- A store of an address portion: that of the word at the location, and the exit. -/
theorem addressStore_run {s t : State} {a v : Addr} {n : Nat} {w : Word} (ht : t = { s with u := w })
    (hn : s.Leads a n) :
    ∃ t', (andThen (t.writeAddr a v) fun s2 => .next s2.exit) = .next t' ∧
      s.StoredAt t' n (withAddressPart (s.word n) v) ∧ t' = { s with mem := t'.mem, p := s.next, u := w } := by
  subst ht
  exact ⟨_, writeAddr_run (s := { s with u := w }) hn, State.storedAt_write rfl, rfl⟩

/-- Settles O18. -/
theorem addressStoresComplete : Obligations.AddressStoresComplete := by
  intro s b d m m1 n h
  refine ⟨fun hd hn => ?_, fun i hi hn => ?_, fun hn => ?_⟩
  · show ∃ t, execSil b m s = .next t ∧ _
    rw [execSil, withIndex_run h, hd]
    exact addressStore_run rfl hn
  · show ∃ t, execSil b m s = .next t ∧ _
    rw [execSil, withIndex_run h, hi]
    exact addressStore_run rfl hn
  · show ∃ t, execSal b m s = .next t ∧ _
    rw [execSal, withModified_run h]
    exact addressStore_run rfl hn

/-! ### Enters and index registers -/

/-- Every stage from the sign's on has the sign (R10). -/
theorem getLsbD_sext15 (v : Addr) {k : Nat} (hk : k < 24) : (sext15 v).getLsbD k = v.getLsbD (min k 14) := by
  rw [sext15, BitVec.getLsbD_signExtend, decide_eq_true hk, Bool.true_and, BitVec.msb_eq_getLsbD_last]
  split
  · rw [Nat.min_eq_left (by omega)]
  · rw [Nat.min_eq_right (by omega)]

/-- Settles O19. -/
theorem entersComplete : Obligations.EntersComplete := by
  intro s b d y y1 h
  refine ⟨?_, ?_, fun v k => getLsbD_sext15 v⟩
  · show execEna b y s = _
    exact withModified_run h
  · show execEnq b y s = _
    exact withModified_run h

/-- Settles O20. -/
theorem indexWritersComplete : Obligations.IndexWritersComplete := by
  intro s b d m m1 h
  refine ⟨fun hd x hx => ?_, fun i hi => ⟨fun w hw => ?_, ?_, ?_, ?_, ?_, ?_⟩⟩
  · subst hd
    rcases hx with rfl | rfl | rfl | rfl | rfl | rfl
    · show execLil b m s = _
      exact withIndex_run h
    · show execAti b m s = _
      exact withIndex_run h
    · show execQti b m s = _
      exact withIndex_run h
    · show execEni b m s = _
      exact withIndex_run h
    · show execIni b m s = _
      exact withIndex_run h
    · show execTal b m s = _
      exact withIndex_run h
  · show execLil b m s = _
    rw [execLil, withIndex_run h, hi]
    exact State.withRead_ok (s := resolved s b d m1) hw
  · show execAti b m s = _
    rw [execAti, withIndex_run h, hi]
    rfl
  · show execQti b m s = _
    rw [execQti, withIndex_run h, hi]
    rfl
  · show execEni b m s = _
    rw [execEni, withIndex_run h, hi]
    rfl
  · show execIni b m s = _
    rw [execIni, withIndex_run h, hi]
    rfl
  · show execTal b m s = _
    rw [execTal, withIndex_run h, hi]
    rfl

/-! ### Arithmetic -/

/-- Settles O21. -/
theorem sumsComplete : Obligations.SumsComplete := by
  intro s b d m m1 w h hw
  refine ⟨?_, ?_, ?_, ?_⟩
  · show execAdd b m s = _
    exact withOperand_run h hw
  · show execSub b m s = _
    exact withOperand_run h hw
  · show execAdl b m s = _
    exact withOperand_run h hw
  · show execSbl b m s = _
    exact withOperand_run h hw

theorem withOverflow_false (i : Indicators) : i.withOverflow false = i := by
  rw [Indicators.withOverflow, Bool.or_false]

/-- INQ with the parameter's part in the indicator left open. -/
theorem inq_run {s : State} {b d : Desig} {y y1 : Addr} (h : s.Resolves b y d y1) :
    execInq b y s = .next
      { s with
        q := add24 s.q (sext15 (s.modify d y1))
        ind := s.ind.withOverflow
          (ovf24 s.q (sext15 (s.modify d y1)) (add24 s.q (sext15 (s.modify d y1))) && s.inst.inqSetsOverflow)
        p := s.next
        u := s.uAfter b d y1 } :=
  withModified_run h

/-- Settles O22. -/
theorem increasesComplete : Obligations.IncreasesComplete := by
  intro s b d y y1 h
  refine ⟨?_, fun hp => ?_, fun hp => ?_⟩
  · show execIna b y s = _
    exact withModified_run h
  · refine (inq_run h).trans ?_
    rw [hp, Bool.and_true]
  · refine (inq_run h).trans ?_
    rw [hp, Bool.and_false, withOverflow_false]

/-- The halves of a double-length quantity make it up. -/
theorem joinLong_halves (t : Long) : joinLong (highHalf t) (lowHalf t) = t := by
  apply BitVec.eq_of_getLsbD_eq
  intro i hi
  simp only [joinLong, highHalf, lowHalf, BitVec.getLsbD_append, BitVec.getLsbD_extractLsb']
  split
  · simp [*]
  · have h1 : i - 24 < 24 := by omega
    have h2 : 24 + (i - 24) = i := by omega
    simp [h1, h2]

/-- Settles O23. -/
theorem multiplyCompletes : Obligations.MultiplyCompletes := by
  intro s b d m m1 w h hw
  refine ⟨?_, joinLong_halves _⟩
  show execMui b m s = _
  exact withOperand_run h hw

/-- Settles O24. -/
theorem divideCompletes : Obligations.DivideCompletes := by
  intro s b d m m1 v h hv
  refine ⟨fun hf => ?_, fun hf => ⟨Config.freeWord s.free, Config.freeWord (s.free + 1), ?_⟩⟩
  · show execDvi b m s = _
    exact (withOperand_run h hv).trans (if_neg (Bool.eq_false_iff.1 hf))
  · show execDvi b m s = _
    exact (withOperand_run h hv).trans (if_pos hf)

/-! ### Logical instructions, shifts, replace -/

/-- Settles O25. -/
theorem selectivesComplete : Obligations.SelectivesComplete := by
  intro s b d m m1 w h hw
  refine ⟨?_, ?_, ?_, ?_, ?_⟩
  · show execSst b m s = _
    exact withOperand_run h hw
  · show execScm b m s = _
    exact withOperand_run h hw
  · show execScl b m s = _
    exact withOperand_run h hw
  · show execSsu b m s = _
    exact withOperand_run h hw
  · show execLdl b m s = _
    exact withOperand_run h hw

/-- Settles O26. -/
theorem shiftsComplete : Obligations.ShiftsComplete := by
  intro s b d k k1 h
  refine ⟨?_, ?_, ?_, ?_, ?_, ?_⟩
  · show execArs b k s = _
    exact withModified_run h
  · show execQrs b k s = _
    exact withModified_run h
  · show execAls b k s = _
    exact withModified_run h
  · show execQls b k s = _
    exact withModified_run h
  · show execLrs b k s = _
    exact withModified_run h
  · show execLls b k s = _
    exact withModified_run h

/-- Settles O27. -/
theorem scalesComplete : Obligations.ScalesComplete := by
  intro s b d k k1 h
  refine ⟨fun hd => ?_, fun i hi => ⟨?_, ?_⟩⟩
  · subst hd
    constructor
    · show execSca b k s = _
      exact withIndex_run h
    · show execScq b k s = _
      exact withIndex_run h
  · show execSca b k s = _
    rw [execSca, withIndex_run h, hi]
    rfl
  · show execScq b k s = _
    rw [execScq, withIndex_run h, hi]
    rfl

/-- A replace instruction, given its second term. -/
theorem replace_run {s : State} {b d : Desig} {m m1 : Addr} {n : Nat} (y : State → Word)
    (hy : y (resolved s b d m1) = y s) (h : s.Resolves b m d m1) (hn : s.Leads (s.modify d m1) n) :
    ∃ t, (s.withOperand b m fun a x s1 => s1.replaceSum a x (y s1)) = .next t ∧
      s.StoredAt t n (add24 (s.word n) (y s)) ∧
      t = { s with
        a := add24 (s.word n) (y s)
        mem := t.mem
        ind := s.ind.withOverflow (ovf24 (s.word n) (y s) (add24 (s.word n) (y s)))
        p := s.next
        u := s.uAfter b d m1 } := by
  rw [withOperand_run h (reads_of_leads hn), hy]
  exact ⟨_, writeWord_run (s := (resolved s b d m1).sumToA _ _) hn, State.storedAt_write rfl, rfl⟩

/-- Settles O28: the four differ in the second term only. -/
theorem replacesComplete : Obligations.ReplacesComplete := by
  intro s b d m m1 n h hn i y hi
  rcases hi with ⟨rfl, rfl⟩ | ⟨rfl, rfl⟩ | ⟨rfl, rfl⟩ | ⟨rfl, rfl⟩
  · exact replace_run State.a rfl h hn
  · exact replace_run (fun s => cpl24 s.a) rfl h hn
  · exact replace_run (fun _ => 0o00000001) rfl h hn
  · exact replace_run (fun _ => 0o77777776) rfl h hn

end Sys2Proof.Proofs.Operations
end

section
/-!
Searches, tests and skips (spec/47_search_test_skip.md).  The idea: the five searches are one loop with five tests, and a
test depends on A and Q only, which no buffer request between two words changes.
-/

namespace Sys2Proof.Proofs.Searches

open Sys2Proof Sys2Proof.Machine Sys2Proof.Proofs.BufferAgent Sys2Proof.Proofs.Addresses Sys2Proof.Proofs.Operations
open Sys2Proof.Proofs.ListedSenses Sys2Proof.Proofs.Shifts Sys2Proof.Proofs.Sequencing

/-! ### The five searches -/

/-- `op` is a search with the test `test`, given A and Q (R200). -/
def IsSearch (op : Desig → Addr → Instr) (test : Word → Word → Word → Bool) : Prop :=
  ∀ (b : Desig) (m : Addr) (s : State), exec (op b m) s = s.withIndex b m fun i a s1 => s1.search (test s1.a s1.q) i a

theorem isSearch_eqs : IsSearch .eqs fun a _ => testEqual a := fun _ _ _ => rfl
theorem isSearch_ths : IsSearch .ths fun a _ => testGreater a := fun _ _ _ => rfl
theorem isSearch_meq : IsSearch .meq fun a q w => testEqual a (q &&& w) := fun _ _ _ => rfl
theorem isSearch_mth : IsSearch .mth fun a q w => testGreater a (q &&& w) := fun _ _ _ => rfl
theorem isSearch_pts : IsSearch .pts fun a _ => testPattern a := fun _ _ _ => rfl

/-- With a register named, a search is the loop over as many words as it holds. -/
theorem IsSearch.loop {op : Desig → Addr → Instr} {test : Word → Word → Word → Bool} (hop : IsSearch op test)
    {s : State} {b d : Desig} {m m1 : Addr} {i : Index} (h : s.Resolves b m d m1) (hi : indexOf d = some i) :
    exec (op b m) s = State.searchLoop (test s.a s.q) i m1 (s.b.get i).toNat (resolved s b d m1) := by
  rw [hop, withIndex_run h, hi]
  rfl

/-- At the end of the indirect chain the search is the same without it. -/
theorem IsSearch.loop_direct {op : Desig → Addr → Instr} {test : Word → Word → Word → Bool} (hop : IsSearch op test)
    (s : State) {d : Desig} (m : Addr) {i : Index} (hi : indexOf d = some i) :
    exec (op d m) s = State.searchLoop (test s.a s.q) i m (s.b.get i).toNat s := by
  have hd : d ≠ 7 := by
    rintro rfl
    exact nomatch hi
  rw [hop.loop (State.resolve_direct s d m hd) hi]
  congr 1
  rw [resolved, State.uAfter, if_neg hd]

/-- With none, it is the test of one word. -/
theorem IsSearch.single {op : Desig → Addr → Instr} {test : Word → Word → Word → Bool} (hop : IsSearch op test)
    {s : State} {b d : Desig} {m m1 : Addr} {w : Word} (h : s.Resolves b m d m1) (hd : d = 0) (hw : s.Reads m1 w) :
    exec (op b m) s =
      .next { s with p := if test s.a s.q w then s.nextButOne else s.next, u := s.uAfter b d m1 } := by
  subst hd
  rw [hop, withIndex_run h]
  refine (State.withRead_ok (s := resolved s b 0 m1) hw).trans ?_
  rw [skipIf_eq]
  rfl

/-! ### The gap between two words -/

theorem searchGap_due {s : State} {ts : List Transfer} {rest : List (List Transfer)}
    (h : s.env.searchRequests = ts :: rest) :
    s.searchGap = { s with env := { s.env with searchRequests := rest } }.serveAll ts := by
  rw [State.searchGap, h]
  rfl

/-- What the buffer agent serves between two words leaves the registers as they are. -/
theorem searchGap_registers {s t : State} (h : s.searchGap = .next t) : t.a = s.a ∧ t.q = s.q ∧ t.b = s.b := by
  cases hr : s.env.searchRequests with
  | nil =>
    rw [State.searchGap_nil hr] at h
    rw [← Host.Outcome.next.inj h]
    exact ⟨rfl, rfl, rfl⟩
  | cons ts rest =>
    rw [searchGap_due hr] at h
    rw [(serveAll_attended h).frame]
    exact ⟨rfl, rfl, rfl⟩

/-! ### The whole search -/

theorem toNat_ofNat_of_count {n : Nat} {v : Addr} (h : n < v.toNat) : (BitVec.ofNat 15 n).toNat = n := by
  rw [BitVec.toNat_ofNat]
  exact Nat.mod_eq_of_lt (h.trans v.isLt)

/-- After a miss with nothing due between the words, the search goes on below. -/
theorem searchLoop_miss {test : Word → Bool} {i : Index} {m : Addr} {n : Nat} {s : State} {w : Word}
    (hr : s.env.searchRequests = []) (hw : s.Reads (add15 m (BitVec.ofNat 15 n)) w) (ht : test w = false) :
    State.searchLoop test i m (n + 1) s = State.searchLoop test i m n (s.setB i (BitVec.ofNat 15 n)) := by
  rw [State.searchLoop_succ hw, ht, if_neg Bool.false_ne_true, State.searchGap_nil (by exact hr), andThen_next]
  split
  · rename_i h0
    rw [h0, State.searchLoop_zero]
  · rfl

theorem searchLoop_hits {test : Word → Bool} {i : Index} {m : Addr} {n c : Nat} {s : State}
    (hr : s.env.searchRequests = []) (h : s.SearchHits test m n c) :
    State.searchLoop test i m n s =
      .next { s with b := s.b.set i (BitVec.ofNat 15 c), p := s.nextButOne } := by
  induction n generalizing s with
  | zero => exact absurd h.1 (Nat.not_lt_zero c)
  | succ n ih =>
    obtain ⟨hc, ⟨w, hw, ht⟩, habove⟩ := h
    rcases Nat.lt_succ_iff_lt_or_eq.1 hc with hlt | rfl
    · obtain ⟨v, hv, hf⟩ := habove n hlt (Nat.lt_succ_self n)
      rw [searchLoop_miss hr hv hf,
        ih (s := s.setB i (BitVec.ofNat 15 n)) hr
          ⟨hlt, ⟨w, hw, ht⟩, fun k hk hkn => habove k hk (Nat.lt_succ_of_lt hkn)⟩,
        State.setB_b, IndexRegs.set_set]
      rfl
    · rw [State.searchLoop_succ hw, ht]
      rfl

theorem searchLoop_misses {test : Word → Bool} {i : Index} {m : Addr} {n : Nat} {s : State}
    (hr : s.env.searchRequests = []) (hn : (s.b.get i).toNat = n) (h : s.SearchMisses test m n) :
    State.searchLoop test i m n s = .next { s with b := s.b.set i 0, p := s.next } := by
  induction n generalizing s with
  | zero =>
    have h0 : s.b.get i = 0 := BitVec.eq_of_toNat_eq hn
    rw [State.searchLoop_zero, ← h0, IndexRegs.set_get]
    rfl
  | succ n ih =>
    obtain ⟨w, hw, hf⟩ := h n (Nat.lt_succ_self n)
    have hcount : ((s.setB i (BitVec.ofNat 15 n)).b.get i).toNat = n := by
      rw [State.setB_b, IndexRegs.get_set_same]
      exact toNat_ofNat_of_count (v := s.b.get i) (by omega)
    rw [searchLoop_miss hr hw hf,
      ih (s := s.setB i (BitVec.ofNat 15 n)) hr hcount fun k hk => h k (Nat.lt_succ_of_lt hk), State.setB_b,
      IndexRegs.set_set]
    rfl

/-- One turn and the whole of a search. -/
theorem IsSearch.complete {op : Desig → Addr → Instr} {test : Word → Word → Word → Bool} (hop : IsSearch op test)
    {s : State} {b d : Desig} {m m1 : Addr} {i : Index} (h : s.Resolves b m d m1) (hi : indexOf d = some i) :
    (s.b.get i = 0 → exec (op b m) s = .next { s with p := s.next, u := s.uAfter b d m1 }) ∧
    (∀ (c : Nat) (w : Word), (s.b.get i).toNat = c + 1 → s.Reads (add15 m1 (BitVec.ofNat 15 c)) w →
      let s1 : State := { s with b := s.b.set i (BitVec.ofNat 15 c), u := s.uAfter b d m1 }
      (test s.a s.q w = true → exec (op b m) s = .next { s1 with p := s.nextButOne }) ∧
      (test s.a s.q w = false → c = 0 → exec (op b m) s = .next { s1 with p := s.next }) ∧
      (test s.a s.q w = false → 0 < c →
        exec (op b m) s = andThen s1.searchGap fun s2 => exec (op d m1) s2)) ∧
    (s.env.searchRequests = [] →
      (∀ c, s.SearchHits (test s.a s.q) m1 (s.b.get i).toNat c →
        exec (op b m) s = .next
          { s with b := s.b.set i (BitVec.ofNat 15 c), p := s.nextButOne, u := s.uAfter b d m1 }) ∧
      (s.SearchMisses (test s.a s.q) m1 (s.b.get i).toNat →
        exec (op b m) s = .next { s with b := s.b.set i 0, p := s.next, u := s.uAfter b d m1 })) := by
  rw [hop.loop h hi]
  refine ⟨fun h0 => ?_, fun c w hc hw => ?_, fun hr => ⟨fun c hc => ?_, fun hm => ?_⟩⟩
  · rw [h0]
    rfl
  · rw [hc, State.searchLoop_succ (s := resolved s b d m1) hw]
    refine ⟨fun ht => ?_, fun ht h0 => ?_, fun ht hpos => ?_⟩
    · rw [ht]
      rfl
    · rw [ht, h0]
      rfl
    · rw [ht, if_neg Bool.false_ne_true, if_neg (Nat.ne_of_gt hpos)]
      refine andThen_congr fun t hg => ?_
      obtain ⟨ha, hq, hb⟩ := searchGap_registers hg
      have hcount : (t.b.get i).toNat = c := by
        rw [hb, State.setB_b, IndexRegs.get_set_same]
        exact toNat_ofNat_of_count (v := s.b.get i) (by omega)
      rw [hop.loop_direct t m1 hi, ha, hq, hcount]
      rfl
  · exact searchLoop_hits (s := resolved s b d m1) hr hc
  · exact searchLoop_misses (s := resolved s b d m1) hr rfl hm

/-- Settles O29: the statement's five tests are those of the five searches. -/
theorem searchesComplete : Obligations.SearchesComplete := by
  refine ⟨fun s => ⟨State.searchGap_nil, fun ts rest => searchGap_due⟩, ?_⟩
  intro s b d m m1 i h hi op test hop
  rcases hop with ⟨rfl, rfl⟩ | ⟨rfl, rfl⟩ | ⟨rfl, rfl⟩ | ⟨rfl, rfl⟩ | ⟨rfl, rfl⟩
  · exact isSearch_eqs.complete h hi
  · exact isSearch_ths.complete h hi
  · exact isSearch_meq.complete h hi
  · exact isSearch_mth.complete h hi
  · exact isSearch_pts.complete h hi

/-- Settles O30. -/
theorem singleWordSearchesComplete : Obligations.SingleWordSearchesComplete := by
  intro s b d m m1 w h hd hw x found hx
  rcases hx with ⟨rfl, rfl⟩ | ⟨rfl, rfl⟩ | ⟨rfl, rfl⟩ | ⟨rfl, rfl⟩ | ⟨rfl, rfl⟩
  · exact isSearch_eqs.single h hd hw
  · exact isSearch_ths.single h hd hw
  · exact isSearch_meq.single h hd hw
  · exact isSearch_mth.single h hd hw
  · exact isSearch_pts.single h hd hw

/-! ### Storage tests -/

/-- Settles O31. -/
theorem storageTestsComplete : Obligations.StorageTestsComplete := by
  intro s b d m m1 h
  refine ⟨fun w hw => ?_, fun n hn => ?_⟩
  · show execSsk b m s = _
    rw [execSsk, withOperand_run h hw, skipIf_eq]
    rfl
  · show ∃ t, execSsh b m s = .next t ∧ _
    rw [execSsh, withOperand_run h (reads_of_leads hn), writeWord_run (s := resolved s b d m1) hn, skipIf_eq,
      leftOne24_eq]
    exact ⟨_, rfl, State.storedAt_write rfl, rfl⟩

/-! ### Skips on an index register -/

/-- Settles O32. -/
theorem indexSkipsComplete : Obligations.IndexSkipsComplete := by
  intro s b d y y1 h
  refine ⟨fun i hi => ⟨fun he => ?_, fun he => ?_, ?_, ?_⟩, fun hd => ?_⟩
  · show execIsk b y s = _
    rw [execIsk, withIndex_run h, hi]
    exact congrArg Host.Outcome.next (if_pos he)
  · show execIsk b y s = _
    rw [execIsk, withIndex_run h, hi]
    exact congrArg Host.Outcome.next (if_neg he)
  · show execSkh b y s = _
    rw [execSkh, withIndex_run h, hi]
    show Host.Outcome.next ((resolved s b d y1).skipIf (decide ((s.b.get i).toNat < y1.toNat))) = _
    by_cases hle : y1.toNat ≤ (s.b.get i).toNat
    · rw [if_pos hle, decide_eq_false (not_lt.2 hle)]
      rfl
    · rw [if_neg hle, decide_eq_true (not_le.1 hle)]
      rfl
  · show execSkl b y s = _
    rw [execSkl, withIndex_run h, hi]
    show Host.Outcome.next ((resolved s b d y1).skipIf (decide (y1.toNat ≤ (s.b.get i).toNat))) = _
    by_cases hle : y1.toNat ≤ (s.b.get i).toNat
    · rw [if_pos hle, decide_eq_true hle]
      rfl
    · rw [if_neg hle, decide_eq_false hle]
      rfl
  · subst hd
    refine ⟨?_, ?_, ?_⟩
    · show execIsk b y s = _
      exact withIndex_run h
    · show execSkh b y s = _
      exact withIndex_run h
    · show execSkl b y s = _
      exact withIndex_run h

end Sys2Proof.Proofs.Searches
end

section
/-!
Jumps, stops, code 52, and XEC (spec/48_jumps_and_stops.md, spec/30_encoding.md R102, spec/60_exceptions.md R271).  The idea
for XEC: like an indirect chain, a chain of XEC words that is still going after 2^15 words never ends, and one that ends
does so at the same instruction however many more words it may read.
-/

namespace Sys2Proof.Proofs.Jumps

open Sys2Proof Sys2Proof.Machine Sys2Proof.Proofs.Encoding Sys2Proof.Proofs.ControlState Sys2Proof.Proofs.Addresses
open Sys2Proof.Proofs.Operations Sys2Proof.Proofs.ConditionalJumps Sys2Proof.Proofs.ListedSenses

/-! ### Code 52 and the illegal codes -/

/-- Code 52 at the end of its indirect chain. -/
theorem indirect52_run {s : State} {m : Addr} {d : Desig} {m1 : Addr} (h : s.Resolves 7 m d m1) :
    execIndirect52 m s =
      match d.toNat with
      | 0 => .next (resolved s 7 d m1).interchange.exit
      | 1 => .next (resolved s 7 d m1).complementA.exit
      | 2 => .next (resolved s 7 d m1).complementQ.exit
      | _ => (resolved s 7 d m1).illegal :=
  withResolved_run h

/-- Settles O17. -/
theorem code52Completes : Obligations.Code52Completes := by
  refine fun s m => ⟨rfl, rfl, rfl, fun d m1 h => ⟨fun hd => ?_, fun hd => ?_, fun hd => ?_, fun hd => ?_⟩⟩
  · subst hd
    exact indirect52_run h
  · subst hd
    exact indirect52_run h
  · subst hd
    exact indirect52_run h
  · refine (indirect52_run h).trans ?_
    split
    · omega
    · omega
    · omega
    · rfl

/-- Settles O38: the six arms are one. -/
theorem illegalCodesStop : Obligations.IllegalCodesStop := by
  rintro s i (⟨b, m, rfl | rfl⟩ | ⟨m, rfl | rfl | rfl | rfl⟩)
  · rfl
  · rfl
  · rfl
  · rfl
  · rfl
  · rfl

/-! ### Stops and jumps -/

/-- Settles O35: the stop, or the jump of R217. -/
theorem selectiveStopCompletes : Obligations.SelectiveStopCompletes := by
  intro s j m set
  have hset : keyCondition j s.panel.stopKey = true ↔ set := keyCondition_iff j s.panel.stopKey
  have hjump (h : ¬set) : exec (.sls j m) s = s.jumpKind j m := if_neg (mt hset.1 h)
  refine ⟨fun h => ?_, fun h hj => ?_, fun h hj n hn => ?_⟩
  · show execSls j m s = _
    exact if_pos (hset.2 h)
  · rw [hjump h]
    exact jumpKind_normal m hj
  · rw [hjump h, jumpKind_return m hj]
    exact returnJump_stores_next hn

/-- Settles O37. -/
theorem unconditionalAndIndexJumpsComplete : Obligations.UnconditionalAndIndexJumpsComplete := by
  intro s b d m m1 h
  refine ⟨?_, fun n hn => ?_, fun hd => ?_, fun i hi => ⟨fun h0 => ?_, fun h0 => ?_⟩⟩
  · show execUjp b m s = _
    exact withModified_run h
  · show ∃ t, execUrj b m s = .next t ∧ _
    rw [execUrj, withModified_run h]
    exact ⟨_, State.returnJump_of_locate (s := resolved s b d m1) hn, State.storedAt_write rfl, rfl⟩
  · subst hd
    show execIjp b m s = _
    exact withIndex_run h
  · show execIjp b m s = _
    rw [execIjp, withIndex_run h, hi]
    exact congrArg Host.Outcome.next (if_pos h0)
  · show execIjp b m s = _
    rw [execIjp, withIndex_run h, hi]
    exact congrArg Host.Outcome.next (if_neg h0)

/-! ### Chains of XEC words -/

/-- Where an XEC has its target; another instruction has none. -/
def xecTarget (s : State) : Instr → Option Addr
  | .xec b m =>
    match s.resolve b m with
    | .ok (d, m1) => some (s.modify d m1)
    | .error _ => none
  | _ => none

/-- Where the XEC at a location has its target. -/
def xecStep (s : State) (a : Addr) : Option Addr :=
  match s.readWord a with
  | .ok w => xecTarget s (decode w)
  | .error _ => none

theorem xecStep_of_reads {s : State} {a : Addr} {w : Word} (h : s.Reads a w) : xecStep s a = xecTarget s (decode w) := by
  rw [xecStep, show s.readWord a = .ok w from h]

theorem reads_of_xecStep {s : State} {a a' : Addr} (h : xecStep s a = some a') : ∃ w, s.Reads a w := by
  rw [xecStep] at h
  split at h
  · exact ⟨_, ‹_›⟩
  · exact nomatch h

theorem xecTarget_of_resolves {s : State} {b d : Desig} {m m1 : Addr} (h : s.Resolves b m d m1) :
    xecTarget s (.xec b m) = some (s.modify d m1) := by
  rw [xecTarget, show s.resolve b m = .ok (d, m1) from h]

/-- Only an XEC that resolves has a target. -/
theorem xecTarget_eq_some {s : State} {i : Instr} {a : Addr} (h : xecTarget s i = some a) :
    ∃ b m d m1, i = .xec b m ∧ s.Resolves b m d m1 ∧ a = s.modify d m1 := by
  unfold xecTarget at h
  split at h
  · split at h
    · exact ⟨_, _, _, _, rfl, ‹_›, (Option.some.inj h).symm⟩
    · exact nomatch h
  · exact nomatch h

theorem withOperand_congr {s : State} {b : Desig} {m : Addr} {k k' : Addr → Word → State → Result}
    (h : ∀ d m1 w, s.Resolves b m d m1 → s.Reads (s.modify d m1) w →
      k (s.modify d m1) w (resolved s b d m1) = k' (s.modify d m1) w (resolved s b d m1)) :
    s.withOperand b m k = s.withOperand b m k' := by
  cases hr : s.resolve b m with
  | error f => simp only [State.withOperand, State.withModified, State.withResolved, hr]
  | ok x =>
    obtain ⟨d, m1⟩ := x
    cases hw : s.readWord (s.modify d m1) with
    | ok w =>
      rw [withOperand_run (d := d) (m1 := m1) hr hw, withOperand_run (d := d) (m1 := m1) hr hw]
      exact h d m1 w hr hw
    | error f =>
      unfold State.withOperand
      rw [withModified_run (d := d) (m1 := m1) hr, withModified_run (d := d) (m1 := m1) hr, State.withRead,
        State.withRead, show (resolved s b d m1).readWord (s.modify d m1) = .error f from hw]

/-- What is in U matters to no operand. -/
theorem resolves_with_u {s : State} {b d : Desig} {m m1 : Addr} (u : Word) :
    State.Resolves { s with u := u } b m d m1 ↔ s.Resolves b m d m1 := by
  rw [State.Resolves, State.Resolves, State.resolve_congr (s := s) (t := { s with u := u }) b m rfl rfl rfl]

theorem reads_with_u {s : State} {a : Addr} {w : Word} (u : Word) :
    State.Reads { s with u := u } a w ↔ s.Reads a w := by
  rw [State.Reads, State.Reads, State.readWord_congr (s := s) (t := { s with u := u }) a rfl rfl rfl]

/-- What an XEC does with its target, whatever is in U before. -/
theorem executeTarget_xec_run (n : Nat) {s : State} {b d : Desig} {m m1 : Addr} {w : Word} (u : Word)
    (h : s.Resolves b m d m1) (hw : s.Reads (s.modify d m1) w) :
    executeTarget (n + 1) (.xec b m) { s with u := u } =
      if w = encode (.xec b m) then .fault .endlessExecute else executeTarget n (decode w) { s with u := w } := by
  rw [executeTarget_xec, withOperand_run ((resolves_with_u u).2 h) ((reads_with_u u).2 hw)]
  rfl

/-- An endless chain of XEC words is told as such after any number of them. -/
theorem executeTarget_of_endless {s : State} (n : Nat) {a : Addr} {w : Word}
    (h : ∀ k, (chainFrom (xecStep s) a k).isSome) (hw : s.Reads a w) :
    executeTarget n (decode w) { s with u := w } = .fault .endlessExecute := by
  induction n generalizing a w with
  | zero => rfl
  | succ n ih =>
    obtain ⟨a', ha⟩ := Option.isSome_iff_exists.1 (h 1)
    have hstep : xecStep s a = some a' := ha
    have hnext (k : Nat) : (chainFrom (xecStep s) a' k).isSome := chainFrom_succ_of_step hstep k ▸ h (k + 1)
    obtain ⟨b, m, d, m1, hi, hres, rfl⟩ := xecTarget_eq_some ((xecStep_of_reads hw).symm.trans hstep)
    obtain ⟨a'', ha''⟩ := Option.isSome_iff_exists.1 (hnext 1)
    obtain ⟨w', hw'⟩ := reads_of_xecStep (a' := a'') ha''
    rw [hi, executeTarget_xec_run n w hres hw', ih hnext hw']
    exact ite_self _

/-- A chain that ends within some number of words ends alike when it may read one more. -/
theorem executeTarget_succ_of_ends {s : State} {n : Nat} {a : Addr} {w : Word}
    (h : chainFrom (xecStep s) a n = none) (hw : s.Reads a w) :
    executeTarget n (decode w) { s with u := w } = executeTarget (n + 1) (decode w) { s with u := w } := by
  induction n generalizing a w with
  | zero => exact nomatch h
  | succ n ih =>
    by_cases hx : opField (encode (decode w)) = 0o60
    · obtain ⟨b, m, hi⟩ := xec_of_op hx
      rw [hi, executeTarget_xec, executeTarget_xec]
      refine withOperand_congr fun d m1 w' hres hw' => ?_
      have hstep : xecStep s a = some (s.modify d m1) := by
        rw [xecStep_of_reads hw, hi]
        exact xecTarget_of_resolves ((resolves_with_u w).1 hres)
      have hread : s.Reads (s.modify d m1) w' := (reads_with_u w).1 hw'
      have hnext := ih (chainFrom_succ_of_step hstep n ▸ h) hread
      show (if _ then _ else executeTarget n (decode w') { s with u := w' }) =
        if _ then _ else executeTarget (n + 1) (decode w') { s with u := w' }
      rw [hnext]
    · have hne (b : Desig) (m : Addr) : decode w ≠ .xec b m := fun hi => hx (by rw [hi]; exact opField_makeWord _ _ _)
      rw [executeTarget_other _ _ _ hne, executeTarget_other _ _ _ hne]

/-- The word at a location, executed for the sake of an XEC, is executed as it would be fetched. -/
theorem executeTarget_eq_exec {s : State} {a : Addr} {w : Word} (hw : s.Reads a w) :
    executeTarget maxLevels (decode w) { s with u := w } = exec (decode w) { s with u := w } := by
  by_cases hx : opField (encode (decode w)) = 0o60
  · obtain ⟨b, m, hi⟩ := xec_of_op hx
    have hexec : exec (decode w) { s with u := w } = executeTarget (maxLevels + 1) (decode w) { s with u := w } := by
      rw [hi]
      rfl
    rw [hexec]
    cases hend : chainFrom (xecStep s) a maxLevels with
    | none => exact executeTarget_succ_of_ends hend hw
    | some a' =>
      have hall := chainFrom_isSome_of_maxLevels (hend ▸ rfl : (chainFrom (xecStep s) a maxLevels).isSome)
      rw [executeTarget_of_endless _ hall hw, executeTarget_of_endless _ hall hw]
  · exact executeTarget_other 32767 _ _ fun b m hi => hx (by rw [hi]; exact opField_makeWord _ _ _)

/-- Settles O39: an XEC that names its own word hangs in both forms, and else the chain below it decides. -/
theorem executeRunsTheTarget : Obligations.ExecuteRunsTheTarget := by
  intro s b d m m1 w h hw
  have hexec : exec (.xec b m) s =
      if w = encode (.xec b m) then .fault .endlessExecute else executeTarget maxLevels (decode w) { s with u := w } :=
    execXec_ok h hw
  rw [hexec]
  split
  · rename_i hself
    have hagain : exec (.xec b m) { s with u := w } = _ := executeTarget_xec_run maxLevels w h hw
    rw [show decode w = .xec b m by rw [hself, decode_encode], hagain, if_pos hself]
  · exact executeTarget_eq_exec hw

/-- Settles O40: the four instructions, each executed in the state with its word in U. -/
theorem executeCompletes : Obligations.ExecuteCompletes := by
  intro s b d m m1 w h hw
  have hx := executeRunsTheTarget s b d m m1 w h hw
  have direct (x : Addr) : State.Resolves { s with u := w } 0 x 0 x := State.resolve_direct _ 0 x (by decide)
  refine ⟨fun y hy => ?_, fun x hy => ?_, fun x v hy hv hneg => ?_, fun x n hy hn => ?_⟩
  all_goals rw [hx, show decode w = _ from congrArg decode hy, decode_makeWord]
  · show execEna 0 y { s with u := w } = _
    exact withModified_run (direct y)
  · show execUjp 0 x { s with u := w } = _
    exact withModified_run (direct x)
  · show execSsk 0 x { s with u := w } = _
    rw [execSsk, withOperand_run (direct x) ((reads_with_u w).2 hv),
      show signBit v = true from hneg]
    rfl
  · show ∃ t, execUrj 0 x { s with u := w } = .next t ∧ _
    rw [execUrj, withModified_run (direct x)]
    exact ⟨_, State.returnJump_of_locate (s := resolved { s with u := w } 0 0 x) hn, State.storedAt_write rfl, rfl⟩

end Sys2Proof.Proofs.Jumps
end

section
/-!
External function codes (spec/49_external_function.md R235 to R259).  The idea: what a code asks for is read off its octal
digits, once for each kind of code, and what is asked for is done in a state that no longer matters.
-/

namespace Sys2Proof.Proofs.ExternalFunctions

open Sys2Proof Sys2Proof.Machine Sys2Proof.Proofs.ControlState Sys2Proof.Proofs.ListedSenses

/-! ### The digits of a code -/

theorem octalDigit_lt (n : Nat) (y : Addr) : octalDigit n y < 8 := Nat.mod_lt _ (by decide)

/-- The channel digit is what stands above the lower twelve bits. -/
theorem octalDigit_four (y : Addr) : octalDigit 4 y = y.toNat / 0o10000 := by
  have hy : y.toNat < 32768 := y.isLt
  simp only [octalDigit, Nat.reducePow]
  omega

theorem channelOf_number (c : Channel) : channelOf c.number = some c := by cases c <;> rfl

theorem channelOf_eq_some_iff {d : Nat} {c : Channel} : channelOf d = some c ↔ d = c.number := by
  constructor
  · intro h
    unfold channelOf at h
    split at h <;> cases h <;> rfl
  · rintro rfl
    exact channelOf_number c

/-- The digits 1 to 6 name the channels. -/
theorem channelOf_eq_none_iff {d : Nat} (hd : d < 8) : channelOf d = none ↔ d = 0 ∨ d = 7 := by
  interval_cases d <;> decide

theorem exists_channel_of_digit {d : Nat} (h1 : 1 ≤ d) (h6 : d ≤ 6) : ∃ c : Channel, d = c.number := by
  cases h : channelOf d with
  | none => rcases (channelOf_eq_none_iff (by omega)).1 h with h0 | h7 <;> omega
  | some c => exact ⟨c, channelOf_eq_some_iff.1 h⟩

/-- A console code has the digits 112 or 212 above its lower six bits. -/
theorem consoleCode_iff (y : Addr) :
    consoleCode y ↔ (octalDigit 4 y = 1 ∨ octalDigit 4 y = 2) ∧ octalDigit 3 y = 1 ∧ octalDigit 2 y = 2 := by
  have hy := toNat_eq_digits y
  have h3 := octalDigit_lt 3 y
  have h2 := octalDigit_lt 2 y
  have h1 := octalDigit_lt 1 y
  have h0 := octalDigit_lt 0 y
  unfold consoleCode
  omega

/-! ### Select codes -/

/-- A select code does what it asks for. -/
theorem exec_exfSelect (y : Addr) (s : State) : exec (.exfSelect y) s = execExfSelect y s := rfl

/-- Settles O41. -/
theorem internalSelectsComplete : Obligations.InternalSelectsComplete := by
  intro s
  refine ⟨fun c => ⟨?_, ?_⟩, ?_, ?_, ?_, ?_, ?_⟩
  · have h : selectCode (efCode 0 (8 * c.number)) = .channelInactive c true := by cases c <;> decide
    rw [exec_exfSelect, execExfSelect, h]
    rfl
  · have h : selectCode (efCode 0 (8 * c.number + 1)) = .channelInactive c false := by cases c <;> decide
    rw [exec_exfSelect, execExfSelect, h]
    rfl
  · rw [exec_exfSelect, execExfSelect, show selectCode 0o00070 = .clearFaults by decide]
    rfl
  · rw [exec_exfSelect, execExfSelect, show selectCode 0o00100 = .arithFault true by decide]
    rfl
  · rw [exec_exfSelect, execExfSelect, show selectCode 0o00101 = .arithFault false by decide]
    rfl
  · rw [exec_exfSelect, execExfSelect, show selectCode 0o01000 = .realTime true by decide]
    rfl
  · rw [exec_exfSelect, execExfSelect, show selectCode 0o01001 = .realTime false by decide]
    rfl

/-! ### Buffer modes -/

/-- The codes 040XY (R247). -/
theorem selectCode_bufferMode {x : BitVec 3} (mode : BufMode) (hx : x ≠ 0) :
    selectCode (efCode 0 (0o4000 + 8 * x.toNat + mode.digit)) = .bufferMode x mode := by
  revert x
  cases mode <;> decide

theorem exec_bufferMode {x : BitVec 3} (mode : BufMode) (hx : x ≠ 0) (s : State) :
    exec (.exfSelect (efCode 0 (0o4000 + 8 * x.toNat + mode.digit))) s = s.selectMode x mode := by
  rw [exec_exfSelect, execExfSelect, selectCode_bufferMode mode hx]

/-- No channel of a pair named is active. -/
theorem pairsActive_eq_false {s : State} {x : BitVec 3}
    (h0 : x.getLsbD 0 = true → s.chan.active.c1 = false ∧ s.chan.active.c2 = false)
    (h1 : x.getLsbD 1 = true → s.chan.active.c3 = false ∧ s.chan.active.c4 = false)
    (h2 : x.getLsbD 2 = true → s.chan.active.c5 = false ∧ s.chan.active.c6 = false) : s.pairsActive x = false := by
  have clear {b p q : Bool} (h : b = true → p = false ∧ q = false) : (b && (p || q)) = false := by
    cases b with
    | false => rfl
    | true =>
      obtain ⟨rfl, rfl⟩ := h rfl
      rfl
  rw [State.pairsActive, clear h0, clear h1, clear h2]
  rfl

/-- Settles O42. -/
theorem bufferModeSelectCompletes : Obligations.BufferModeSelectCompletes := by
  intro s x mode hx h0 h1 h2
  have harmed : (s.con.readerArmed && x.getLsbD 0 && decide (mode ≠ .bits24)) = false := by
    cases ha : s.con.readerArmed with
    | false => rfl
    | true =>
      cases hb : x.getLsbD 0 with
      | false => rfl
      | true =>
        obtain ⟨-, -, hmode⟩ := h0 hb
        rw [hmode ha]
        rfl
  rw [exec_bufferMode mode hx, State.selectMode, harmed, if_neg Bool.false_ne_true,
    pairsActive_eq_false (fun h => ⟨(h0 h).1, (h0 h).2.1⟩) h1 h2, if_neg Bool.false_ne_true]
  rfl

/-! ### Channel clears, the reader and the punch -/

theorem selectCode_channelClear (c : Channel) : selectCode (efCode c.number 0) = .channelClear c := by
  cases c <;> decide

theorem selectCode_readerSetEot {x : Nat} (hx : x < 8) : selectCode (efCode 1 (0o1210 + x)) = .readerSetEot := by
  interval_cases x <;> decide

/-- An equipment selected on its own channel where no other keeps it. -/
theorem selectEquipment_next {s t : State} {c : Channel} {e : Equipment} (h : ¬s.KeptFrom c e) :
    s.selectEquipment c false e t = .next (t.setUsers (s.chan.user.select c false e)).exit :=
  State.selectEquipment_eq_next.2 ⟨⟨h, fun hf => Bool.noConfusion hf⟩, rfl⟩

theorem selectReader_eot_false (s : State) (sel : Bool) :
    s.selectReader false sel =
      { s with
        con := { s.con with readerSelected := true, readerArmed := true, selReaderEotInt := sel }
        chan := { s.chan with mode := { s.chan.mode with p12 := .bits24 } } } := by
  rw [State.selectReader, Bool.or_false]
  rfl

theorem selectReader_eot_true (s : State) (sel : Bool) :
    s.selectReader true sel =
      { s with
        con := { s.con with readerSelected := true, readerArmed := true, readerEot := true, selReaderEotInt := sel }
        chan := { s.chan with mode := { s.chan.mode with p12 := .bits24 } } } := by
  rw [State.selectReader, Bool.or_true]
  rfl

/-- Settles O43. -/
theorem consoleSelectsComplete : Obligations.ConsoleSelectsComplete := by
  intro s
  have refused {c : Channel} {e : Equipment} (t : State) (h : s.KeptFrom c e) :
      s.selectEquipment c false e t = .refused .secondEquipment := State.selectEquipment_refused (.inl h)
  have h11200 : selectCode 0o11200 = .readerNoInterrupt := by decide
  have h11220 : selectCode 0o11220 = .readerInterrupt := by decide
  have h21200 : selectCode 0o21200 = .punchAssembly := by decide
  have h21210 : selectCode 0o21210 = .punchCharacter := by decide
  refine ⟨fun c => ?_, fun h => ⟨?_, fun x hx => ?_, ?_⟩, fun h => ⟨?_, ?_⟩, ?_, fun h y hy => ?_, fun h => ⟨?_, ?_⟩⟩
  · rw [exec_exfSelect, execExfSelect, selectCode_channelClear]
    cases c <;> rfl
  · rw [exec_exfSelect, execExfSelect, h11200]
    show s.selectEquipment .c1 false .reader (s.selectReader false false) = _
    rw [selectEquipment_next h, selectReader_eot_false]
    rfl
  · rw [exec_exfSelect, execExfSelect, selectCode_readerSetEot hx]
    show s.selectEquipment .c1 false .reader (s.selectReader true false) = _
    rw [selectEquipment_next h, selectReader_eot_true]
    rfl
  · rw [exec_exfSelect, execExfSelect, h11220]
    show s.selectEquipment .c1 false .reader (s.selectReader false true) = _
    rw [selectEquipment_next h, selectReader_eot_false]
    rfl
  · rw [exec_exfSelect, execExfSelect, h21200]
    exact selectEquipment_next h
  · rw [exec_exfSelect, execExfSelect, h21210]
    exact selectEquipment_next h
  · rw [exec_exfSelect, execExfSelect, show selectCode 0o21240 = .punchMotorOff by decide]
    rfl
  · rcases hy with rfl | rfl | ⟨x, hx, rfl⟩
    · rw [exec_exfSelect, execExfSelect, h11200]
      exact refused _ h
    · rw [exec_exfSelect, execExfSelect, h11220]
      exact refused _ h
    · rw [exec_exfSelect, execExfSelect, selectCode_readerSetEot hx]
      exact refused _ h
  · rw [exec_exfSelect, execExfSelect, h21200]
    exact refused _ h
  · rw [exec_exfSelect, execExfSelect, h21210]
    exact refused _ h

/-! ### External equipment -/

/-- Any other code with a channel digit is the environment's. -/
theorem selectCode_external {c : Channel} {y : Addr} (hc : y.toNat / 0o10000 = c.number)
    (hrest : y.toNat % 0o10000 ≠ 0) (hcon : ¬consoleCode y) : selectCode y = .external c := by
  have hy := toNat_eq_digits y
  have h4 : octalDigit 4 y = c.number := (octalDigit_four y).trans hc
  have hzero : ¬(octalDigit 3 y = 0 ∧ octalDigit 2 y = 0 ∧ octalDigit 1 y = 0 ∧ octalDigit 0 y = 0) := by omega
  rw [consoleCode_iff, h4] at hcon
  have hreader : ¬(c = .c1 ∧ octalDigit 3 y = 1 ∧ octalDigit 2 y = 2) := by
    rintro ⟨rfl, h32⟩
    exact hcon ⟨.inl rfl, h32⟩
  have hpunch : ¬(c = .c2 ∧ octalDigit 3 y = 1 ∧ octalDigit 2 y = 2) := by
    rintro ⟨rfl, h32⟩
    exact hcon ⟨.inr rfl, h32⟩
  simp only [selectCode, h4, channelOf_number, if_neg hzero, if_neg hreader, if_neg hpunch]

/-- Every code that the digits of `listedSelect` allow stands in the list. -/
theorem mem_of_listedSelect {y : Addr} {x : External} {both : Bool} (h : listedSelect y = some (x, both)) :
    (y.toNat, x, both) ∈ listedSelectCodes := by
  have hy := toNat_eq_digits y
  have h1 := octalDigit_lt 1 y
  have h0 := octalDigit_lt 0 y
  simp only [listedSelect, Bool.and_eq_true, Bool.or_eq_true, decide_eq_true_eq] at h
  revert hy h1 h0 h
  generalize octalDigit 4 y = d4
  generalize octalDigit 3 y = d3
  generalize octalDigit 2 y = d2
  generalize octalDigit 1 y = d1
  generalize octalDigit 0 y = d0
  generalize y.toNat = n
  intro hy h1 h0 h
  split at h
  · rename_i hd
    obtain ⟨⟨⟨⟨⟨h4, rfl⟩, rfl⟩, hlo⟩, hhi⟩, hd0⟩ := hd
    cases h
    rcases h4 with rfl | rfl <;> rcases hd0 with rfl | rfl <;> interval_cases d1 <;> subst hy <;> decide
  · split at h
    · rename_i hd
      obtain ⟨⟨⟨⟨rfl, rfl⟩, rfl⟩, hd1⟩, hd0⟩ := hd
      cases h
      interval_cases d1 <;> interval_cases d0 <;> subst hy <;> decide
    · split at h
      · rename_i hd
        obtain ⟨⟨⟨rfl, rfl⟩, rfl⟩, ⟨(rfl | rfl) | rfl, rfl⟩ | ⟨(rfl | rfl) | rfl, rfl⟩⟩ := hd <;> cases h <;> subst hy <;>
          decide
      · split at h
        · rename_i hd
          obtain ⟨⟨⟨⟨(rfl | rfl) | rfl, rfl⟩, rfl⟩, rfl⟩, rfl⟩ := hd <;> cases h <;> subst hy <;> decide
        · exact nomatch h

/-- And every code of the list has such digits. -/
theorem listedSelect_of_mem : ∀ p ∈ listedSelectCodes, listedSelect (BitVec.ofNat 15 p.1) = some p.2 := by decide

theorem listedSelect_iff (y : Addr) (x : External) (both : Bool) :
    listedSelect y = some (x, both) ↔ (y.toNat, x, both) ∈ listedSelectCodes := by
  refine ⟨mem_of_listedSelect, fun h => ?_⟩
  have hlisted := listedSelect_of_mem _ h
  rwa [BitVec.ofNat_toNat, BitVec.setWidth_eq] at hlisted

/-- A code of the environment's that selects no equipment. -/
theorem exec_external_of_none {s : State} {c : Channel} {y : Addr} (hcode : selectCode y = .external c)
    (hby : s.inst.selectedBy y = none) : exec (.exfSelect y) s = .next (s.deliver y).exit := by
  simp only [exec_exfSelect, execExfSelect, hcode, hby]

theorem exec_external_of_some {s : State} {c : Channel} {y : Addr} {x : External} {both : Bool}
    (hcode : selectCode y = .external c) (hby : s.inst.selectedBy y = some (x, both)) :
    exec (.exfSelect y) s = s.selectEquipment c both (.external x) (s.deliver y) := by
  simp only [exec_exfSelect, execExfSelect, hcode, hby]

/-- Settles O44. -/
theorem externalSelectIsDelivered : Obligations.ExternalSelectIsDelivered := by
  refine ⟨listedSelect_iff, fun s c y hc hrest hcon => ?_⟩
  have hcode := selectCode_external hc hrest hcon
  refine ⟨fun hnone => ?_, fun x both hsel => ?_⟩
  · refine exec_external_of_none hcode ?_
    rw [Option.eq_none_iff_forall_ne_some]
    rintro ⟨x, both⟩ hx
    exact hnone x both (Installation.selectedBy_eq_some.1 hx)
  · have hexec := exec_external_of_some hcode (Installation.selectedBy_eq_some.2 hsel)
    refine ⟨fun h1 h2 => ?_, fun h => ?_⟩
    · exact hexec.trans (State.selectEquipment_eq_next.2 ⟨⟨h1, h2⟩, rfl⟩)
    · exact hexec.trans (State.selectEquipment_refused h)

/-! ### Codes that mean nothing -/

theorem exec_unlisted {y : Addr} (h : selectCode y = .unlisted) (s : State) :
    exec (.exfSelect y) s = .refused (.unlistedCode y) := by
  rw [exec_exfSelect, execExfSelect, h]

theorem exec_unlisted_sense {y : Addr} (h : senseCode y = none) (s : State) :
    exec (.exfSense y) s = .refused (.unlistedCode y) := by
  rw [exec_exfSense, execExfSense, h]

/-- An internal select code whose digits mean something is listed. -/
theorem mem_of_internalSelect {d3 d2 d1 d0 : Nat} (h : internalSelect d3 d2 d1 d0 ≠ .unlisted) (h1 : d1 < 8) :
    d3 * 512 + d2 * 64 + d1 * 8 + d0 ∈ internalSelectCodes := by
  have hchannel {c : Channel} (hc : channelOf d1 = some c) : 1 ≤ d1 ∧ d1 ≤ 6 := by
    rw [channelOf_eq_some_iff.1 hc]
    cases c <;> decide
  have hmode {mode : BufMode} (hm : modeOf d0 = some mode) : d0 < 3 := by
    unfold modeOf at hm
    split at hm
    · decide
    · decide
    · decide
    · exact nomatch hm
  unfold internalSelect at h
  split at h
  · rename_i h32
    obtain ⟨rfl, rfl⟩ := h32
    split at h
    · rename_i h10
      obtain ⟨rfl, rfl⟩ := h10
      decide
    · split at h
      · obtain ⟨hlo, hhi⟩ := hchannel ‹_›
        interval_cases d1 <;> decide
      · obtain ⟨hlo, hhi⟩ := hchannel ‹_›
        interval_cases d1 <;> decide
      · exact absurd rfl h
  · split at h
    · rename_i h321
      obtain ⟨rfl, rfl, rfl⟩ := h321
      split at h
      · decide
      · decide
      · exact absurd rfl h
    · split at h
      · rename_i h321
        obtain ⟨rfl, rfl, rfl⟩ := h321
        split at h
        · decide
        · decide
        · exact absurd rfl h
      · split at h
        · rename_i h32
          obtain ⟨rfl, rfl⟩ := h32
          split at h
          · exact absurd rfl h
          · rename_i d1 _ _ _ hne hm _ _
            have hd0 := hmode hm
            have hd1 : 1 ≤ d1 := Nat.pos_of_ne_zero hne
            interval_cases d1 <;> interval_cases d0 <;> decide
          · exact absurd rfl h
        · exact absurd rfl h

/-- And so is one of the reader's, and of the punch's. -/
theorem mem_of_readerSelect {d1 d0 : Nat} (h : readerSelect d1 d0 ≠ .unlisted) (h0 : d0 < 8) :
    0o11200 + d1 * 8 + d0 ∈ consoleSelectCodes := by
  unfold readerSelect at h
  split at h
  · decide
  · interval_cases d0 <;> decide
  · decide
  · exact absurd rfl h

theorem mem_of_punchSelect {d1 d0 : Nat} (h : punchSelect d1 d0 ≠ .unlisted) :
    0o21200 + d1 * 8 + d0 ∈ consoleSelectCodes := by
  unfold punchSelect at h
  split at h
  · decide
  · decide
  · decide
  · exact absurd rfl h

/-- The three kinds of select code that mean nothing (R258(b)). -/
theorem selectCode_unlisted {y : Addr}
    (h : (y.toNat < 0o10000 ∧ y.toNat ∉ internalSelectCodes) ∨ 0o70000 ≤ y.toNat ∨
      (consoleCode y ∧ y.toNat ∉ consoleSelectCodes)) : selectCode y = .unlisted := by
  have hy := toNat_eq_digits y
  have h4 := octalDigit_four y
  have h1 := octalDigit_lt 1 y
  have h0 := octalDigit_lt 0 y
  by_contra hlisted
  rcases h with ⟨hlt, hnot⟩ | hge | ⟨hcon, hnot⟩
  · have h4' : octalDigit 4 y = 0 := by omega
    simp only [selectCode, h4', channelOf, if_true] at hlisted
    have hmem := mem_of_internalSelect hlisted h1
    rw [hy, h4'] at hnot
    exact hnot (by simpa using hmem)
  · have h4' : octalDigit 4 y = 7 := by
      have := octalDigit_lt 4 y
      omega
    simp [selectCode, h4', channelOf] at hlisted
  · obtain ⟨h4' | h4', h3, h2⟩ := (consoleCode_iff y).1 hcon
    · simp only [selectCode, h4', h3, h2, channelOf] at hlisted
      have hmem := mem_of_readerSelect (by simpa using hlisted) h0
      rw [hy, h4', h3, h2] at hnot
      exact hnot hmem
    · simp only [selectCode, h4', h3, h2, channelOf] at hlisted
      have hmem := mem_of_punchSelect (by simpa using hlisted)
      rw [hy, h4', h3, h2] at hnot
      exact hnot hmem

theorem senseCode_of_channel_digit_none {y : Addr} (h : channelOf (octalDigit 4 y) = none)
    (hnot : y.toNat ∉ internalSenseCodes) : senseCode y = none := by
  have hy := toNat_eq_digits y
  have h1 := octalDigit_lt 1 y
  simp only [senseCode, h]
  split
  · rename_i hd
    obtain ⟨h4, h3, h0⟩ := hd
    rw [hy, h4, h3] at hnot
    revert hnot h1 h0
    generalize octalDigit 2 y = d2
    generalize octalDigit 1 y = d1
    generalize octalDigit 0 y = d0
    intro hnot h1 h0
    split
    · rename_i c hc
      rw [channelOf_eq_some_iff.1 hc] at hnot
      cases c <;> interval_cases d0 <;> exact absurd (by decide) hnot
    · interval_cases d0 <;> exact absurd (by decide) hnot
    · interval_cases d0 <;> exact absurd (by decide) hnot
    · interval_cases d0 <;> exact absurd (by decide) hnot
    · rfl
  · rfl

/-- The three kinds of sense code that mean nothing. -/
theorem senseCode_unlisted {y : Addr}
    (h : (y.toNat < 0o10000 ∧ y.toNat ∉ internalSenseCodes) ∨ 0o70000 ≤ y.toNat ∨
      (consoleCode y ∧ y.toNat ∉ consoleSenseCodes)) : senseCode y = none := by
  have hy := toNat_eq_digits y
  have h4 := octalDigit_four y
  rcases h with ⟨hlt, hnot⟩ | hge | ⟨hcon, hnot⟩
  · refine senseCode_of_channel_digit_none ?_ hnot
    rw [h4, Nat.div_eq_of_lt hlt]
    rfl
  · have h7 : octalDigit 4 y = 7 := by
      have := octalDigit_lt 4 y
      omega
    refine senseCode_of_channel_digit_none (by rw [h7]; rfl) fun hmem => ?_
    have hbound : ∀ n ∈ internalSenseCodes, n < 0o70000 := by decide
    exact absurd (hbound _ hmem) (by omega)
  · obtain ⟨h12, h3, h2⟩ := (consoleCode_iff y).1 hcon
    rw [hy, h3, h2] at hnot
    rcases h12 with h1' | h2'
    · have hc : channelOf (octalDigit 4 y) = some .c1 := by rw [h1']; rfl
      rw [h1'] at hnot
      simp only [senseCode, hc, h3, h2, and_self, if_true]
      revert hnot
      generalize octalDigit 1 y = d1
      generalize octalDigit 0 y = d0
      intro hnot
      split
      · exact absurd (by decide) hnot
      · exact absurd (by decide) hnot
      · exact absurd (by decide) hnot
      · exact absurd (by decide) hnot
      · rfl
    · have hc : channelOf (octalDigit 4 y) = some .c2 := by rw [h2']; rfl
      rw [h2'] at hnot
      simp only [senseCode, hc, h3, h2, reduceCtorEq, false_and, if_false, and_self, if_true]
      revert hnot
      generalize octalDigit 1 y = d1
      generalize octalDigit 0 y = d0
      intro hnot
      split
      · exact absurd (by decide) hnot
      · exact absurd (by decide) hnot
      · rfl

/-- Settles O45. -/
theorem unlistedCodesAreRefused : Obligations.UnlistedCodesAreRefused := by
  intro s y
  refine ⟨fun h => exec_unlisted (selectCode_unlisted h) s, fun h => exec_unlisted_sense (senseCode_unlisted h) s,
    fun x mode hx hy => ?_⟩
  subst hy
  rw [exec_bufferMode mode hx, State.selectMode]
  refine ⟨fun ha hb hm => ?_, fun hno hactive => ?_⟩
  · rw [ha, hb, decide_eq_true hm]
    rfl
  · have harmed : (s.con.readerArmed && x.getLsbD 0 && decide (mode ≠ .bits24)) = false := by
      rcases hno with h | h | rfl
      · rw [h]
        rfl
      · rw [h, Bool.and_false]
        rfl
      · exact Bool.and_false _
    rw [harmed, if_neg Bool.false_ne_true, hactive]
    rfl

/-! ### External sense codes -/

theorem pairedExternal_iff (y : Addr) : pairedExternal y = true ↔ y.toNat ∈ pairedSenseCodes := by
  simp only [pairedExternal, pairedSenseCodes, Bool.or_eq_true, decide_eq_true_eq, List.mem_cons, List.not_mem_nil,
    or_false]
  omega

/-- A code with a channel digit that is no console code, by its condition (R255). -/
theorem senseCode_external {y : Addr} (hlo : 0o10000 ≤ y.toNat) (hhi : y.toNat < 0o70000) (hcon : ¬consoleCode y) :
    senseCode y =
      if pairedExternal y = true ∧ y.toNat % 2 = 1 then some (.external (y - 1), false)
      else some (.external y, true) := by
  have hy := toNat_eq_digits y
  have h4 := octalDigit_four y
  obtain ⟨c, hc⟩ := exists_channel_of_digit (d := octalDigit 4 y) (by omega) (by omega)
  have hodd : octalDigit 0 y % 2 = y.toNat % 2 := by omega
  rw [consoleCode_iff, hc] at hcon
  have hreader : ¬(c = .c1 ∧ octalDigit 3 y = 1 ∧ octalDigit 2 y = 2) := by
    rintro ⟨rfl, h32⟩
    exact hcon ⟨.inl rfl, h32⟩
  have hpunch : ¬(c = .c2 ∧ octalDigit 3 y = 1 ∧ octalDigit 2 y = 2) := by
    rintro ⟨rfl, h32⟩
    exact hcon ⟨.inr rfl, h32⟩
  simp only [senseCode, hc, channelOf_number, if_neg hreader, if_neg hpunch, hodd]

/-- Settles O47. -/
theorem externalSenseIsAnswered : Obligations.ExternalSenseIsAnswered := by
  refine ⟨pairedExternal_iff, fun s y hlo hhi hcon => ?_⟩
  have hsense := senseCode_external hlo hhi hcon
  refine ⟨fun h => ?_, fun hodd hpair => ?_⟩
  · have hno : ¬(pairedExternal y = true ∧ y.toNat % 2 = 1) := by
      rintro ⟨hpair, hodd⟩
      rcases h with h | h
      · omega
      · exact Bool.noConfusion (h.symm.trans hpair)
    rw [if_neg hno] at hsense
    rw [exec_exfSense_of_senseCode hsense, State.holds]
    simp
  · rw [if_pos ⟨hpair, hodd⟩] at hsense
    rw [exec_exfSense_of_senseCode hsense, State.holds]
    simp

/-! ### Activate -/

/-- An activate, with its references to the control words made (R238): they are installed on every machine. -/
theorem activate_run (s : State) (c : Channel) (y : Addr) :
    s.activate c y =
      let s1 : State :=
        { s with
          mem := s.mem.write (2 * c.number + 1) (withAddressPart (s.word (2 * c.number + 1)) y)
          con := if c = .c1 then { s.con with readerArmed := false } else s.con }
      if y = addressPart (s.word (2 * c.number)) then .next (s1.setActive c false).exit
      else if s.chan.active.get c then .refused .activateActive
      else .next (s1.setActive c true).exit := by
  unfold State.activate
  rw [State.writeAddr_then (s.inst.locate_currentWord c),
    State.withRead_ok (State.readWord_of_locate (by exact s.inst.locate_terminalWord c)),
    Memory.read_write_other _ _ _ _ (by omega)]
  cases c <;> rfl

/-- Settles O48. -/
theorem activatesComplete : Obligations.ActivatesComplete := by
  intro s c y
  rw [exec_activateInstr, activate_run]
  refine ⟨fun hy => ?_, fun hy hc => ?_, fun hy hc => ?_⟩
  · exact ⟨_, if_pos hy, State.storedAt_write rfl, rfl⟩
  · exact ⟨_, (if_neg hy).trans (if_neg (Bool.eq_false_iff.1 hc)), State.storedAt_write rfl, rfl⟩
  · exact (if_neg hy).trans (if_pos hc)

end Sys2Proof.Proofs.ExternalFunctions
end

section
/-!
Buffer transfers, the reader and the punch (spec/49_external_function.md R239 to R244, R253 to R256).  The idea: every
transfer is one or two steps of the control words, which are installed on every machine, so what is left of a transfer is
its word.
-/

namespace Sys2Proof.Proofs.Transfers

open Sys2Proof Sys2Proof.Machine

/-! ### Frames of paper tape -/

/-- The lower six levels of a frame are what was put there. -/
theorem extract_frame (level7 : BitVec 1) (x : BitVec 6) : (level7 ++ x : Frame).extractLsb' 0 6 = x := by
  apply BitVec.eq_of_getLsbD_eq
  intro i hi
  rw [BitVec.getLsbD_extractLsb', BitVec.getLsbD_append]
  simp [hi]

theorem frame_level7 (level7 : BitVec 1) (x : BitVec 6) : (level7 ++ x : Frame).getLsbD 6 = level7.getLsbD 0 := by
  rw [BitVec.getLsbD_append]
  rfl

/-- A word is made of its four groups of six bits. -/
theorem word_of_sixes (w : Word) :
    w.extractLsb' 18 6 ++ w.extractLsb' 12 6 ++ w.extractLsb' 6 6 ++ w.extractLsb' 0 6 = w := by
  apply BitVec.eq_of_getLsbD_eq
  intro i hi
  simp only [BitVec.getLsbD_append, BitVec.getLsbD_extractLsb']
  split_ifs
  · simp [*]
  · rw [decide_eq_true (by omega), Bool.true_and]
    congr 1
    omega
  · rw [decide_eq_true (by omega), Bool.true_and]
    congr 1
    omega
  · rw [decide_eq_true (by omega), Bool.true_and]
    congr 1
    omega

/-- Settles O50. -/
theorem punchedTapeReadsBack : Obligations.PunchedTapeReadsBack := by
  intro w
  refine ⟨rfl, _, _, _, _, rfl, frame_level7 _ _, frame_level7 _ _, frame_level7 _ _, frame_level7 _ _,
    extract_frame _ _, extract_frame _ _, ?_⟩
  rw [assemble, extract_frame, extract_frame, extract_frame, extract_frame, word_of_sixes]

/-! ### One step of the control words -/

/-- The odd control word is read on every machine. -/
theorem withRead_current (s : State) (c : Channel) (k : Word → Result) :
    s.withRead (currentWord c) k = k (s.word (2 * c.number + 1)) :=
  State.withRead_ok (State.readWord_of_locate (s.inst.locate_currentWord c))

/-- The end of a transfer step counts on and no more. -/
theorem advanceBuffer_counted (s : State) (c : Channel) :
    s.advanceBuffer c (inc15 (addressPart (s.word (2 * c.number + 1)))) = .next (s.counted c) := by
  rw [State.advanceBuffer_ok]
  unfold State.counted State.word inc15
  simp only
  split <;> rfl

/-- An input step whose current address leads to storage (R241). -/
theorem inputStep_run {s : State} {c : Channel} {n : Nat} (w : Word)
    (h : s.Leads (addressPart (s.word (2 * c.number + 1))) n) :
    s.inputStep c w =
      let s1 : State := { s with mem := s.mem.write n w }
      let next := inc15 (addressPart (s.word (2 * c.number + 1)))
      .next { s1 with
        mem := s1.mem.write (2 * c.number + 1) (withAddressPart (s1.word (2 * c.number + 1)) next)
        chan := if next = addressPart (s1.word (2 * c.number))
          then { s.chan with active := s.chan.active.set c false } else s.chan } := by
  refine (State.inputStep_ok h).trans ((State.advanceBuffer_ok _ _ _).trans ?_)
  simp only
  unfold State.word
  split <;> rfl

/-- An output step is the word at the current address and the count (R242). -/
theorem outputStep_run {s : State} {c : Channel} {w : Word} {k : Word → State → Result}
    (h : s.Reads (addressPart (s.word (2 * c.number + 1))) w) : s.outputStep c k = k w (s.counted c) := by
  refine (State.outputStep_ok h).trans ?_
  rw [show s.advanceBuffer c (inc15 (addressPart (s.mem.read (2 * c.number + 1)))) = _ from advanceBuffer_counted s c,
    andThen_next]

theorem counted_storedAt (s : State) (c : Channel) :
    s.StoredAt (s.counted c) (2 * c.number + 1)
      (withAddressPart (s.word (2 * c.number + 1)) (addressPart (s.word (2 * c.number + 1)) + 1)) :=
  State.storedAt_write rfl

/-- The first clause of O49: one input step, location by location. -/
theorem inputStep_complete {s : State} {c : Channel} {n : Nat} (w : Word)
    (h : s.Leads (addressPart (s.word (2 * c.number + 1))) n) :
    ∃ t, s.inputStep c w = .next t ∧
      (∀ k, k ≠ 2 * c.number + 1 → t.word k = if k = n then w else s.word k) ∧
      t.word (2 * c.number + 1) =
        withAddressPart (if 2 * c.number + 1 = n then w else s.word (2 * c.number + 1))
          (addressPart (s.word (2 * c.number + 1)) + 1) ∧
      t = { s with
        mem := t.mem
        chan := if addressPart (s.word (2 * c.number + 1)) + 1 = addressPart (t.word (2 * c.number))
          then { s.chan with active := s.chan.active.set c false } else s.chan } := by
  have hodd : 2 * c.number ≠ 2 * c.number + 1 := by omega
  rw [inputStep_run w h]
  generalize 2 * c.number + 1 = odd at hodd ⊢
  generalize 2 * c.number = even at hodd ⊢
  simp only [State.word]
  refine ⟨_, rfl, fun k hk => ?_, ?_, ?_⟩
  · rw [Memory.read_write_other _ _ _ _ hk, Memory.read_write]
  · rw [Memory.read_write_same, Memory.read_write]
    rfl
  · simp only [Memory.read_write_other _ _ _ _ hodd]
    rfl

/-! ### Output -/

theorem punches_iff {s : State} {c : OutChannel} :
    s.punches c = true ↔ c = .c2 ∧ s.con.punchSelected = true := by
  simp [State.punches]

/-- A transmission in 24-bit mode. -/
theorem output_bits24 {s : State} {c : OutChannel} {w : Word}
    (hw : s.Reads (addressPart (s.word (2 * c.channel.number + 1))) w)
    (hm : s.chan.mode.get c.channel.pair = .bits24) :
    s.output c = .next (if s.punches c then (s.counted c.channel).punch w
      else (s.counted c.channel).send (.word24 c w)) := by
  unfold State.output
  rw [hm]
  exact outputStep_run hw

/-- In 160 mode. -/
theorem output_bits12 {s : State} {c : OutChannel} {w : Word}
    (hw : s.Reads (addressPart (s.word (2 * c.channel.number + 1))) w)
    (hm : s.chan.mode.get c.channel.pair = .bits12) :
    s.output c = .next (if s.punches c
      then ((s.counted c.channel).setFree (s.free + 1)).punch (punchWord12 s.free w)
      else (s.counted c.channel).send (.word12 c (signBit w) (w.extractLsb' 0 12))) := by
  unfold State.output
  rw [hm]
  exact outputStep_run hw

/-- In 1604 mode: a second step, unless the buffer ends after the first. -/
theorem output_bits48 {s : State} {c : OutChannel} {w : Word}
    (hw : s.Reads (addressPart (s.word (2 * c.channel.number + 1))) w)
    (hm : s.chan.mode.get c.channel.pair = .bits48) :
    s.output c =
      if (s.counted c.channel).chan.active.get c.channel then
        (s.counted c.channel).outputStep c.channel fun w2 s2 =>
          .next (if s.punches c then (s2.punch w).punch w2 else s2.send (.word48 c (join48 s.inst.word48 w w2)))
      else .refused .oddBuffer48 := by
  unfold State.output
  rw [hm]
  exact outputStep_run hw

theorem punchWord12_low (n : Nat) (w : Word) : (punchWord12 n w).extractLsb' 0 12 = w.extractLsb' 0 12 := by
  apply BitVec.eq_of_getLsbD_eq
  intro i hi
  rw [punchWord12, BitVec.getLsbD_extractLsb', BitVec.getLsbD_append]
  simp [hi]

/-! ### The reader -/

/-- The twelve bits that a 160-mode pair takes of a frame are the whole of it. -/
theorem word12_of_frame (c : Frame) : word12 ((c.zeroExtend 24).extractLsb' 0 12) = c.zeroExtend 24 := by
  apply BitVec.eq_of_getLsbD_eq
  intro i hi
  simp only [word12, BitVec.truncate_eq_setWidth, BitVec.getLsbD_setWidth, BitVec.getLsbD_extractLsb']
  by_cases h : i < 12
  · simp [h, hi]
  · have hout : c.getLsbD i = false := BitVec.getLsbD_of_ge _ _ (by omega)
    simp [h, hi, hout]

theorem readerStep_empty {s : State} (h : s.env.tape = []) : s.readerStep = .next s := by
  unfold State.readerStep
  rw [h]
  cases s.con.readerMode <;> rfl

theorem readerStep_character {s : State} {c : Frame} {rest : List Frame} (hm : s.con.readerMode = .character)
    (h : s.env.tape = c :: rest) : s.readerStep = s.readerWord rest (c.zeroExtend 24) := by
  unfold State.readerStep
  rw [hm, h]

/-- A frame without the level-7 hole where a word should begin is passed over. -/
theorem readerStep_no_hole {s : State} {c : Frame} {rest : List Frame} (hm : s.con.readerMode = .assembly)
    (h : s.env.tape = c :: rest) (hc : c.getLsbD 6 = false) :
    s.readerStep =
      .next { s with env := { s.env with tape := rest }, con := { s.con with readerEot := true } } := by
  unfold State.readerStep
  rw [hm, h]
  rcases rest with _ | ⟨c1, _ | ⟨c2, _ | ⟨c3, rest⟩⟩⟩
  all_goals exact if_neg (Bool.eq_false_iff.1 hc)

theorem readerStep_short {s : State} {c : Frame} {rest : List Frame} (hm : s.con.readerMode = .assembly)
    (h : s.env.tape = c :: rest) (hc : c.getLsbD 6 = true) (hrest : rest.length < 3) : s.readerStep = .next s := by
  unfold State.readerStep
  rw [hm, h]
  rcases rest with _ | ⟨c1, _ | ⟨c2, _ | ⟨c3, rest⟩⟩⟩
  · exact if_pos hc
  · exact if_pos hc
  · exact if_pos hc
  · simp only [List.length_cons] at hrest
    omega

theorem readerStep_word {s : State} {c0 c1 c2 c3 : Frame} {rest : List Frame} (hm : s.con.readerMode = .assembly)
    (h : s.env.tape = c0 :: c1 :: c2 :: c3 :: rest) (hc : c0.getLsbD 6 = true) :
    s.readerStep = s.readerWord rest (assemble c0 c1 c2 c3) := by
  unfold State.readerStep
  rw [hm, h]
  exact if_pos hc

theorem readerWord_character (s : State) (rest : List Frame) (c : Frame) :
    s.readerWord rest (c.zeroExtend 24) =
      State.inputStep { s with env := { s.env with tape := rest } } .c1 (c.zeroExtend 24) := by
  unfold State.readerWord
  rw [word12_of_frame, ite_self]
  rfl

/-! ### Selection by a word -/

theorem selectByWord_passed {s : State} {c : OutChannel} {x : External} {w : Word}
    (hw : s.Reads (addressPart (s.word (2 * c.channel.number + 1))) w)
    (h : s.chan.mode.get c.channel.pair ≠ .bits12 ∨ w.getLsbD 23 = false) : s.selectByWord c x = .next s := by
  unfold State.selectByWord
  split
  · rename_i hm
    have hsign : signBit w = false := h.resolve_left fun hne => hne hm
    rw [withRead_current, State.withRead_ok hw, hsign]
    rfl
  · rfl

theorem selectByWord_taken_by {s s1 : State} {c : OutChannel} (x : External) {w : Word}
    (hw : s.Reads (addressPart (s.word (2 * c.channel.number + 1))) w)
    (hm : s.chan.mode.get c.channel.pair = .bits12) (hsign : w.getLsbD 23 = true) (h : s.output c = .next s1) :
    s.selectByWord c x = .next
      { s1 with chan := { s1.chan with user := s1.chan.user.set c.channel (some ⟨.external x, c.channel⟩) } } := by
  unfold State.selectByWord
  rw [hm]
  simp only
  rw [withRead_current, State.withRead_ok hw,
    show signBit w = true from hsign, if_pos rfl, h]
  rfl

/-! ### The transfers of O49, clause by clause -/

theorem output_bits24_complete {s : State} {c : OutChannel} {w : Word}
    (hw : s.Reads (addressPart (s.word (2 * c.channel.number + 1))) w)
    (hm : s.chan.mode.get c.channel.pair = .bits24) :
    ∃ t, s.output c = .next t ∧
      s.StoredAt t (2 * c.channel.number + 1)
        (withAddressPart (s.word (2 * c.channel.number + 1)) (addressPart (s.word (2 * c.channel.number + 1)) + 1)) ∧
      t = { s with
        mem := t.mem
        chan := if addressPart (s.word (2 * c.channel.number + 1)) + 1 = addressPart (s.word (2 * c.channel.number))
          then { s.chan with active := s.chan.active.set c.channel false } else s.chan
        env := if c = .c2 ∧ s.con.punchSelected = true
          then { s.env with punched := s.env.punched ++ punchFrames s.con.punchMode w }
          else { s.env with sent := s.env.sent ++ [.word24 c w] } } := by
  rw [output_bits24 hw hm]
  by_cases hp : c = .c2 ∧ s.con.punchSelected = true
  · rw [if_pos (punches_iff.2 hp), if_pos hp]
    exact ⟨_, rfl, counted_storedAt s c.channel, rfl⟩
  · rw [if_neg (mt punches_iff.1 hp), if_neg hp]
    exact ⟨_, rfl, counted_storedAt s c.channel, rfl⟩

theorem input_complete (s : State) (c : Channel) (x : Long) :
    (s.chan.mode.get c.pair = .bits24 → s.input c x = s.inputStep c (x.extractLsb' 0 24)) ∧
    (s.chan.mode.get c.pair = .bits12 → s.input c x = s.inputStep c ((x.extractLsb' 0 12).zeroExtend 24)) ∧
    (s.chan.mode.get c.pair = .bits48 → ∀ w1 w2 : Word,
      (s.inst.word48 = .upperFirst ∧ w1 = x.extractLsb' 24 24 ∧ w2 = x.extractLsb' 0 24) ∨
        (s.inst.word48 = .lowerFirst ∧ w1 = x.extractLsb' 0 24 ∧ w2 = x.extractLsb' 24 24) →
      ∀ s1, s.inputStep c w1 = .next s1 →
        (s1.chan.active.get c = true → s.input c x = s1.inputStep c w2) ∧
        (s1.chan.active.get c = false → s.input c x = .refused .oddBuffer48)) := by
  refine ⟨fun hm => ?_, fun hm => ?_, fun hm w1 w2 hw s1 h1 => ?_⟩
  · rw [State.input, hm]
    rfl
  · rw [State.input, hm]
    rfl
  · have hwords : wordsOf48 s.inst.word48 x = (w1, w2) := by
      rcases hw with ⟨ho, rfl, rfl⟩ | ⟨ho, rfl, rfl⟩ <;> rw [ho] <;> rfl
    rw [State.input, hm]
    simp only [hwords, h1, andThen_next]
    exact ⟨fun ha => if_pos ha, fun ha => if_neg (Bool.eq_false_iff.1 ha)⟩

theorem output_bits12_complete {s : State} {c : OutChannel} {w : Word}
    (hw : s.Reads (addressPart (s.word (2 * c.channel.number + 1))) w)
    (hm : s.chan.mode.get c.channel.pair = .bits12) :
    (¬(c = .c2 ∧ s.con.punchSelected = true) → s.output c = .next
      { s.counted c.channel with
        env := { s.env with sent := s.env.sent ++ [.word12 c (w.getLsbD 23) (w.extractLsb' 0 12)] } }) ∧
    (c = .c2 ∧ s.con.punchSelected = true →
      ∃ v : Word, v.extractLsb' 0 12 = w.extractLsb' 0 12 ∧ s.output c = .next
        { s.counted c.channel with
          env := { s.env with punched := s.env.punched ++ punchFrames s.con.punchMode v }
          free := s.free + 1 }) := by
  rw [output_bits12 hw hm]
  refine ⟨fun hp => ?_, fun hp => ⟨punchWord12 s.free w, punchWord12_low _ _, ?_⟩⟩
  · rw [if_neg (mt punches_iff.1 hp)]
    rfl
  · rw [if_pos (punches_iff.2 hp)]
    rfl

theorem output_bits48_complete {s : State} {c : OutChannel} {w : Word}
    (hw : s.Reads (addressPart (s.word (2 * c.channel.number + 1))) w)
    (hm : s.chan.mode.get c.channel.pair = .bits48) :
    ((s.counted c.channel).chan.active.get c.channel = false → s.output c = .refused .oddBuffer48) ∧
    ((s.counted c.channel).chan.active.get c.channel = true →
      ∀ v, (s.counted c.channel).Reads (addressPart ((s.counted c.channel).word (2 * c.channel.number + 1))) v →
      (¬(c = .c2 ∧ s.con.punchSelected = true) → ∀ x : Long,
        (s.inst.word48 = .upperFirst ∧ x = w ++ v) ∨ (s.inst.word48 = .lowerFirst ∧ x = v ++ w) →
        s.output c = .next
          { (s.counted c.channel).counted c.channel with
            env := { s.env with sent := s.env.sent ++ [.word48 c x] } }) ∧
      (c = .c2 ∧ s.con.punchSelected = true → s.output c = .next
        { (s.counted c.channel).counted c.channel with
          env := { s.env with
            punched := s.env.punched ++ punchFrames s.con.punchMode w ++ punchFrames s.con.punchMode v } })) := by
  rw [output_bits48 hw hm]
  refine ⟨fun ha => if_neg (Bool.eq_false_iff.1 ha), fun ha v hv => ?_⟩
  rw [if_pos ha, outputStep_run hv]
  refine ⟨fun hp x hx => ?_, fun hp => ?_⟩
  · have hjoin : join48 s.inst.word48 w v = x := by
      rcases hx with ⟨ho, rfl⟩ | ⟨ho, rfl⟩ <;> rw [ho] <;> rfl
    rw [if_neg (mt punches_iff.1 hp), hjoin]
    rfl
  · rw [if_pos (punches_iff.2 hp)]
    rfl

/-- Settles O49. -/
theorem bufferTransfersComplete : Obligations.BufferTransfersComplete := by
  refine ⟨fun s c w n h => inputStep_complete w h, fun s c w hw hm => output_bits24_complete hw hm, input_complete,
    fun s c w hw => ⟨output_bits12_complete hw, output_bits48_complete hw⟩,
    fun s c x w hw => ⟨selectByWord_passed hw, fun hm hs s1 h1 => selectByWord_taken_by x hw hm hs h1⟩, fun s => ?_⟩
  refine ⟨readerStep_empty, fun hm c rest h => ?_, fun hm => ⟨fun c rest h hc => readerStep_no_hole hm h hc,
    fun c rest h hc hrest => readerStep_short hm h hc hrest, fun c0 c1 c2 c3 rest w h hc hw => ?_⟩⟩
  · rw [readerStep_character hm h, readerWord_character]
  · subst hw
    rw [readerStep_word hm h hc]
    exact ⟨fun hne => congrArg _ (if_neg hne), fun heq => congrArg _ (if_pos heq)⟩

end Sys2Proof.Proofs.Transfers

/-!
The stopped computer (spec/60_exceptions.md R270): it serves the buffer requests that come at a boundary and does no more.
-/

namespace Sys2Proof.Proofs.StoppedComputer

open Sys2Proof Sys2Proof.Machine Sys2Proof.Proofs.Sequencing Sys2Proof.Proofs.BufferAgent Sys2Proof.Proofs.Transfers

/-! ### A boundary in a stopped computer -/

theorem serveAll_append (s : State) (ts us : List Transfer) :
    s.serveAll (ts ++ us) = andThen (s.serveAll ts) fun t => t.serveAll us := by
  induction ts generalizing s with
  | nil => rfl
  | cons x ts ih =>
    rw [List.cons_append, serveAll_cons, serveAll_cons, andThen_assoc]
    exact andThen_congr fun t _ => ih t

/-- Events that are all buffer requests are served. -/
theorem applyAll_transfers (s : State) (ts : List Transfer) : s.applyAll (ts.map .transfer) = s.serveAll ts := by
  induction ts generalizing s with
  | nil => rfl
  | cons x ts ih =>
    rw [List.map_cons, serveAll_cons]
    exact andThen_congr fun t _ => ih t

theorem serveAll_panel {s t : State} {ts : List Transfer} (h : s.serveAll ts = .next t) : t.panel = s.panel := by
  rw [(serveAll_attended h).frame]

/-- In a stopped computer no interrupt is looked at, no boundary closed and no instruction executed. -/
theorem between_of_stopped {s : State} (h : s.panel.run = .stopped) : s.between = false := by
  rw [State.between, h]
  rfl

theorem proceed_of_stopped {s : State} (h : s.panel.run = .stopped) : s.proceed = .next s := by
  rw [State.proceed, h]

/-- A step of a stopped computer to which nothing but buffer requests come. -/
theorem step_of_stopped {s : State} {ts : List Transfer} (h : s.panel.run = .stopped)
    (he : s.nextBoundary.events = ts.map .transfer) :
    step s = s.popBoundary.serveAll (ts ++ s.nextBoundary.after) := by
  have hp : s.popBoundary.panel.run = .stopped := h
  show andThen (andThen (s.popBoundary.applyAll s.nextBoundary.events) _) _ = _
  rw [he, applyAll_transfers, andThen_assoc, serveAll_append]
  refine andThen_congr fun t ht => ?_
  have hstop : t.panel.run = .stopped := by rw [serveAll_panel ht, hp]
  rw [State.scanInterrupt, between_of_stopped hstop, if_neg Bool.false_ne_true, andThen_next, andThen_assoc]
  refine (andThen_congr (k' := .next) fun v hv => ?_).trans (andThen_return _)
  have hstop' : v.panel.run = .stopped := by rw [serveAll_panel hv, hstop]
  rw [State.closeBoundary_outside (between_of_stopped hstop'), andThen_next, proceed_of_stopped hstop']

/-! ### One request -/

/-- A request on an inactive channel does nothing; on an active one it is refused where another equipment uses the channel,
and else depends on whether its equipment is selected. -/
theorem byExternal_complete {s : State} {c : Channel} {x : External} {selected : Prop} {r r0 : Result}
    (hsel : s.connected c x = true ↔ selected) :
    (¬s.chan.active.get c = true → s.byExternal c x r r0 = .next s) ∧
    (s.chan.active.get c = true → ¬s.UsedBeside c (.external x) → ¬selected → s.byExternal c x r r0 = r0) ∧
    (s.chan.active.get c = true → ¬s.UsedBeside c (.external x) → selected → s.byExternal c x r r0 = r) ∧
    (s.chan.active.get c = true → s.UsedBeside c (.external x) →
      s.byExternal c x r r0 = .refused .secondEquipment) := by
  refine ⟨fun ha => if_neg ha, fun ha hu hs => ?_, fun ha hu hs => ?_, fun ha hu => ?_⟩
  · rw [State.byExternal, if_pos ha, State.alone_of_not _ hu, if_neg (mt hsel.1 hs)]
  · rw [State.byExternal, if_pos ha, State.alone_of_not _ hu, if_pos (hsel.2 hs)]
  · rw [State.byExternal, if_pos ha, State.alone_of_used _ hu]

/-- The same of the console's own equipment, which is always selected where it is able. -/
theorem ifAble_complete {s : State} {c : Channel} {e : Equipment} {b : Bool} {able : Prop} {r : Result}
    (hable : b = true ↔ able) :
    (¬able → (if b then s.alone c e r else .next s) = .next s) ∧
    (able → ¬s.UsedBeside c e → ¬True → (if b then s.alone c e r else .next s) = .next s) ∧
    (able → ¬s.UsedBeside c e → True → (if b then s.alone c e r else .next s) = r) ∧
    (able → s.UsedBeside c e → (if b then s.alone c e r else .next s) = .refused .secondEquipment) := by
  refine ⟨fun ha => if_neg (mt hable.1 ha), fun _ _ hf => absurd trivial hf, fun ha hu _ => ?_, fun ha hu => ?_⟩
  · rw [if_pos (hable.2 ha), State.alone_of_not _ hu]
  · rw [if_pos (hable.2 ha), State.alone_of_used _ hu]

/-- Settles O52. -/
theorem stoppedComputerServesBuffersOnly : Obligations.StoppedComputerServesBuffersOnly := by
  refine ⟨fun s h ha => ⟨fun he => ?_, fun c e x n he hm hact hu hsel hn => ?_⟩, fun s ts h he => step_of_stopped h he,
    fun s => ⟨serveAll_nil s, serveAll_cons s, ?_, fun ts t ht => ?_⟩⟩
  · have hstep := step_of_stopped (ts := []) h he
    rw [ha] at hstep
    exact hstep
  · have hstep := step_of_stopped (ts := [.offer c e x]) h he
    obtain ⟨t, ht, -⟩ := inputStep_complete (s := s.popBoundary) (c := c.channel) (x.extractLsb' 0 24) hn
    have hserve : s.popBoundary.serve (.offer c e x) = .next t := by
      obtain ⟨-, -, hserved, -⟩ := byExternal_complete (s := s.popBoundary) (c := c.channel) (x := e)
        (r := s.popBoundary.input c.channel x) (r0 := .next s.popBoundary) State.connected_iff
      exact (hserved hact hu hsel).trans (((input_complete s.popBoundary c.channel x).1 hm).trans ht)
    refine ⟨t, ?_, ht⟩
    rw [hstep, ha, List.append_nil, serveAll_cons, hserve, andThen_next, serveAll_nil]
  · rintro x c e able selected r r0 (⟨i, u, d, rfl, rfl, rfl, rfl, rfl, rfl, rfl⟩ |
      ⟨o, u, rfl, rfl, rfl, rfl, rfl, rfl, rfl⟩ | ⟨rfl, rfl, rfl, rfl, rfl, rfl, rfl⟩ |
      ⟨rfl, rfl, rfl, rfl, rfl, rfl, rfl⟩)
    · exact byExternal_complete State.connected_iff
    · exact byExternal_complete (State.connected_iff.trans (or_iff_left State.not_repliesOn_output))
    · exact ifAble_complete State.readerMoves_iff
    · exact ifAble_complete State.punchReady_iff
  · have h := serveAll_attended ht
    exact ⟨h.frame, h.user⟩

end Sys2Proof.Proofs.StoppedComputer
end

section
/-!
The machine between instructions (spec/60_exceptions.md R270, R280 to R291, spec/70_reset_and_hazards.md R310, R311).  The
idea: what happens at a boundary between its events and its instruction depends only on whether an interrupt is due there
and may be put off, so it is computed once for each case.
-/

namespace Sys2Proof.Proofs.Boundaries

open Sys2Proof Sys2Proof.Machine Sys2Proof.Proofs.Sequencing Sys2Proof.Proofs.BufferAgent
open Sys2Proof.Proofs.Encoding Sys2Proof.Proofs.ControlState Sys2Proof.Proofs.Invariant
open Sys2Proof.Proofs.ConditionalJumps Sys2Proof.Proofs.StoppedComputer

/-! ### The interrupt at a boundary -/

/-- The state after an interrupt entry (R282). -/
def entered (s : State) : State :=
  { s with
    mem := s.mem.write 14 (withAddressPart (s.mem.read 14) s.p)
    p := 0o17
    intr := { s.intr with lockout := true, rtcRequest := false, deferred := false } }

theorem interruptEntry_entered (s : State) : s.interruptEntry = .next (entered s) := State.interruptEntry_ok s

/-- The lockout keeps the next one off. -/
theorem interruptDue_entered (s : State) : (entered s).interruptDue = false := Bool.and_false _

/-- What a boundary does between its events and its instruction, where no buffer request comes after the scan. -/
def pass (s : State) (late : Bool) : Result := andThen (s.scanInterrupt late) State.closeBoundary

/-- Outside of the program nothing. -/
theorem pass_outside {s : State} (late : Bool) (h : s.between = false) : pass s late = .next s := by
  rw [pass, State.scanInterrupt, h, if_neg Bool.false_ne_true, andThen_next, State.closeBoundary_outside h]

/-- With no interrupt due, that none is put off. -/
theorem pass_quiet {s : State} (late : Bool) (h : s.between = true) (hd : s.interruptDue = false) :
    pass s late = .next { s with intr := { s.intr with deferred := false } } := by
  rw [pass, State.scanInterrupt, if_pos h, State.recognize_passed (.inl hd), andThen_next,
    State.closeBoundary_between h (.inl hd), hd]

/-- An interrupt that is due and seen, or was put off before, is entered. -/
theorem pass_taken {s : State} {late : Bool} (h : s.between = true) (hd : s.interruptDue = true)
    (hl : late = false ∨ s.intr.deferred = true) : pass s late = .next (entered s) := by
  rw [pass, State.scanInterrupt, if_pos h, State.recognize_taken hd hl, interruptEntry_entered, andThen_next,
    State.closeBoundary_between (s := entered s) h (.inl (interruptDue_entered s)), interruptDue_entered]
  rfl

/-- One that a late scanner does not see is put off, which is recorded. -/
theorem pass_putOff {s : State} (h : s.between = true) (hd : s.interruptDue = true) (hf : s.intr.deferred = false) :
    pass s true = .next { s with intr := { s.intr with deferred := true } } := by
  rw [pass, State.scanInterrupt, if_pos h, State.recognize_passed (.inr ⟨rfl, hf⟩), andThen_next,
    State.closeBoundary_between h (.inr hf), hd]

/-- A step whose events lead to `t`, with no buffer request after the scan. -/
theorem step_of_events {s t : State} (he : s.popBoundary.applyAll s.nextBoundary.events = .next t)
    (ha : s.nextBoundary.after = []) : step s = andThen (pass t s.nextBoundary.late) State.proceed := by
  show andThen (andThen (s.popBoundary.applyAll s.nextBoundary.events) _) _ = _
  rw [he, andThen_next, ha]
  rfl

theorem applyAll_single (s : State) (e : Event) : s.applyAll [e] = s.apply e := andThen_return _

/-- With one event, `e`. -/
theorem step_of_event {s t : State} {e : Event} (he : s.nextBoundary.events = [e])
    (ht : s.popBoundary.apply e = .next t) (ha : s.nextBoundary.after = []) :
    step s = andThen (pass t s.nextBoundary.late) State.proceed :=
  step_of_events (by rw [he, applyAll_single, ht]) ha

/-- With none. -/
theorem step_of_no_event {s : State} (he : s.nextBoundary.events = []) (ha : s.nextBoundary.after = []) :
    step s = andThen (pass s.popBoundary s.nextBoundary.late) State.proceed :=
  step_of_events (by rw [he]; rfl) ha

/-! ### The instruction -/

theorem proceed_running {s : State} (hr : s.panel.run = .running) (hp : s.panel.slsPending = false) :
    s.proceed = s.runInstruction := by
  rw [State.proceed, hr]
  exact if_neg (Bool.eq_false_iff.1 hp)

/-- The word at P, in U, is executed. -/
theorem proceed_fetch {s : State} {w : Word} (hr : s.panel.run = .running) (hp : s.panel.slsPending = false)
    (hu : (s.panel.stepOne && s.panel.uSet) = false) (hw : s.Reads s.p w) :
    s.proceed = andThen (exec (decode w) { s with u := w, panel := { s.panel with uSet := false } })
      fun t => .next (t.finish s.p) := by
  rw [proceed_running hr hp, State.runInstruction, hu, if_neg Bool.false_ne_true, State.withRead_ok hw]
  rfl

/-- In a single step the word that the operator has set in U is. -/
theorem proceed_operator {s : State} (hr : s.panel.run = .running) (hp : s.panel.slsPending = false)
    (ho : s.panel.stepOne = true) (hu : s.panel.uSet = true) :
    s.proceed = andThen (exec (decode s.u) { s with panel := { s.panel with uSet := false } })
      fun t => .next (t.finish s.p) := by
  rw [proceed_running hr hp, State.runInstruction, ho, hu]
  rfl

/-- The jump of an SLS that stopped is made in place of an instruction (R287). -/
theorem proceed_pending {s : State} (hr : s.panel.run = .running) (hp : s.panel.slsPending = true) :
    s.proceed = andThen s.pendingJump fun t => .next (t.finish s.p) := by
  rw [State.proceed, hr]
  exact if_pos hp

/-! ### START, STEP and the end of a step -/

/-- The panel after START. -/
def started (p : Panel) : Panel := { p with run := .running, stepOne := false, uSet := false }

/-- The panel after STEP in a stopped computer. -/
def stepping (p : Panel) : Panel := { p with run := .running, stepOne := true }

theorem apply_start (s : State) : s.apply .start = .next (s.setPanel (started s.panel)) := rfl

theorem apply_step_stopped {s : State} (h : s.panel.run = .stopped) :
    s.apply .step = .next (s.setPanel (stepping s.panel)) := by
  rw [State.apply, State.stepKey, h]
  rfl

theorem apply_step_running {s : State} (h : s.panel.run = .running) :
    s.apply .step = .next (s.setPanel { s.panel with run := .stopped, stepOne := false, uSet := false }) := by
  rw [State.apply, State.stepKey, h]

/-- The end of a single step that ran on. -/
theorem finish_step_running {t : State} {p0 : Addr} (ho : t.panel.stepOne = true) (hr : t.panel.run = .running) :
    t.finish p0 = { t with
      intr := t.intr.afterCompleted p0
      panel := { t.panel with run := .stopped, stepOne := false, uSet := false }
      free := t.free + 1 } := by
  unfold State.finish
  rw [if_pos hr, State.endLockout_eq]
  simp only [ho, if_true]
  rfl

/-- And of one that stopped the computer itself. -/
theorem finish_step_stopped {t : State} {p0 : Addr} (ho : t.panel.stepOne = true) (hr : t.panel.run = .stopped) :
    t.finish p0 = { t with
      panel := { t.panel with run := .stopped, stepOne := false, uSet := false }
      free := t.free + 1 } := by
  unfold State.finish
  rw [if_neg (by rw [hr]; exact RunState.noConfusion)]
  simp only [ho, if_true]
  rfl

/-! ### A step at a quiet boundary -/

theorem between_of_fetches {s : State} (h : s.Fetches) : s.between = true := State.between_iff.2 ⟨h.1, h.2.1⟩

/-- The first clause of O51, which later ones build on. -/
theorem step_quiet {s : State} {w : Word} (hf : s.Fetches) (hq : s.Quiet) (hw : s.Reads s.p w) :
    step s = andThen (exec (decode w) (s.fetched w)) fun t => .next (t.finish s.p) := by
  obtain ⟨he, ha, hd⟩ := hq
  obtain ⟨hr, hp, hu⟩ := hf
  rw [step_of_no_event he ha, pass_quiet (s := s.popBoundary) _ (State.between_iff.2 ⟨hr, hp⟩) hd, andThen_next]
  exact proceed_fetch hr hp hu hw

/-- Settles O51. -/
theorem stepRunsTheDecodedInstruction : Obligations.StepRunsTheDecodedInstruction := by
  refine ⟨?_, fun t p0 => ⟨fun ho hr => State.finish_running hr ho, fun ho hr => State.finish_stopped hr ho,
    finish_step_running, finish_step_stopped⟩, fun s w hr hp hd ha => ⟨fun he hw => ?_, fun he hw => ?_⟩,
    fun s hr he ha => ?_⟩
  · rintro s w i hf hq hw rfl -
    exact step_quiet hf hq hw
  · rw [step_of_event he (apply_start _) ha,
      pass_quiet (s := s.popBoundary.setPanel (started s.popBoundary.panel)) _ (State.between_iff.2 ⟨rfl, hp⟩) hd,
      andThen_next]
    exact proceed_fetch rfl hp rfl hw
  · rw [step_of_event he (apply_step_stopped hr) ha,
      pass_quiet (s := s.popBoundary.setPanel (stepping s.popBoundary.panel)) _ (State.between_iff.2 ⟨rfl, hp⟩) hd,
      andThen_next]
    rcases hw with ⟨hu, rfl⟩ | ⟨hu, hw⟩
    · exact proceed_operator rfl hp rfl hu
    · exact proceed_fetch rfl hp hu hw
  · rw [step_of_event he (apply_step_running hr) ha, pass_outside _ (between_of_stopped rfl), andThen_next]
    exact proceed_of_stopped rfl

/-- Settles O55: the instruction leaves the lockout alone, and the end of the step is the only place where it ends. -/
theorem lockoutEndsAtWord16 : Obligations.LockoutEndsAtWord16 := by
  intro s t w hf hq hw ht
  rw [step_quiet hf hq hw] at ht
  obtain ⟨v, hv, hfin⟩ := andThen_eq_next.1 ht
  obtain rfl := Host.Outcome.next.inj hfin
  have hlock : v.intr.lockout = s.intr.lockout := exec_keeps_lockout (s := s.fetched w) (encode_decode w).symm hv
  have hintr : (v.finish s.p).intr.lockout =
      if v.panel.run = .running then v.intr.lockout && !decide (s.p = 0o16) else v.intr.lockout := by
    cases hr : v.panel.run <;> cases ho : v.panel.stepOne
    · rw [State.finish_running hr ho]; rfl
    · rw [finish_step_running ho hr]; rfl
    · rw [State.finish_stopped hr ho]; rfl
    · rw [finish_step_stopped ho hr]; rfl
  refine ⟨fun hrun h16 => ?_, fun h16 => ?_⟩
  · have hv : v.panel.run = .running := by
      rw [finish_panel] at hrun
      split at hrun
      · exact RunState.noConfusion hrun
      · exact hrun
    rw [hintr, if_pos hv, decide_eq_true h16]
    exact Bool.and_false _
  · rw [hintr, decide_eq_false h16, Bool.not_false, Bool.and_true, ite_self, hlock]

/-! ### The pending jump of an SLS -/

/-- A stopped computer that is started inside an SLS makes the jump at once (R287). -/
theorem step_pending {s : State} {e : Event} {p : Panel} (he : s.nextBoundary.events = [e])
    (ht : s.popBoundary.apply e = .next (s.popBoundary.setPanel p)) (ha : s.nextBoundary.after = [])
    (hr : p.run = .running) (hp : p.slsPending = true) :
    step s = andThen
      ((s.popBoundary.setPanel { p with slsPending := false }).jumpKind (desigField s.u) (addrField s.u))
      fun t => .next (t.finish s.p) := by
  have hb : (s.popBoundary.setPanel p).between = false := by
    rw [State.between, State.setPanel_panel, hp]
    exact Bool.and_false _
  rw [step_of_event he ht ha, pass_outside _ hb, andThen_next]
  exact proceed_pending hr hp

/-- What the end of the step makes of the panel with the jump made: after START the computer runs on, after STEP it stops
(R291). -/
theorem finish_pending {t : State} {p : Panel} {p0 : Addr} (ht : t.panel = { p with slsPending := false })
    (hr : p.run = .running) (ho : p.stepOne = false → p.uSet = false) :
    t.finish p0 = { t with
      intr := t.intr.afterCompleted p0
      panel := { p with
        run := if p.stepOne then .stopped else .running, slsPending := false, stepOne := false, uSet := false }
      free := t.free + 1 } := by
  have hrun : t.panel.run = .running := by rw [ht]; exact hr
  cases hs : p.stepOne with
  | true =>
    rw [finish_step_running (by rw [ht]; exact hs) hrun, ht]
    rfl
  | false =>
    have hpanel : t.panel =
        { p with run := .running, slsPending := false, stepOne := false, uSet := false } := by
      obtain ⟨jk, sk, run, sls, one, uset⟩ := p
      obtain rfl : run = .running := hr
      obtain rfl : one = false := hs
      obtain rfl : uset = false := ho rfl
      exact ht
    rw [State.finish_running hrun (by rw [ht]; exact hs)]
    simp only [hpanel]
    rfl

/-- Settles O36. -/
theorem pendingJumpIsMadeAtStart : Obligations.PendingJumpIsMadeAtStart := by
  intro s hr hp ha run hrun m after past
  obtain ⟨e, p, he, ht, hpr, hpp, hpo, hafter⟩ : ∃ (e : Event) (p : Panel), s.nextBoundary.events = [e] ∧
      s.popBoundary.apply e = .next (s.popBoundary.setPanel p) ∧ p.run = .running ∧ p.slsPending = true ∧
      (p.stepOne = false → p.uSet = false) ∧
      after = { p with
        run := if p.stepOne then .stopped else .running, slsPending := false, stepOne := false, uSet := false } := by
    rcases hrun with ⟨he, rfl⟩ | ⟨he, rfl⟩
    · exact ⟨.start, started s.popBoundary.panel, he, apply_start _, rfl, hp, fun _ => rfl, rfl⟩
    · exact ⟨.step, stepping s.popBoundary.panel, he, apply_step_stopped hr, rfl, hp, fun h => Bool.noConfusion h, rfl⟩
  have hstep := step_pending he ht ha hpr hpp
  rw [hafter]
  refine ⟨fun hj => ?_, fun hj n hn => ?_⟩
  · rw [hstep, jumpKind_normal _ hj, andThen_next, finish_pending rfl hpr hpo]
    rfl
  · obtain ⟨t, hjump, hstored, hframe⟩ :=
      returnJump_stores_next (s := s.popBoundary.setPanel { p with slsPending := false }) hn
    have hpanel : t.panel = { p with slsPending := false } := congrArg State.panel hframe
    refine ⟨t.finish s.p, ?_, ?_, ?_⟩
    · rw [hstep, jumpKind_return _ hj, hjump, andThen_next]
    · rw [finish_pending hpanel hpr hpo]
      exact hstored
    · rw [finish_pending hpanel hpr hpo]
      simp only
      rw [hframe]
      rfl

end Sys2Proof.Proofs.Boundaries
end

section
/-!
The interrupt (spec/60_exceptions.md R280 to R289) and the master clears (spec/70_reset_and_hazards.md R310, R311).  The
idea of the bound on the delay: from the boundary at which the interrupt was put off, `deferred` stays set until the
condition is looked at again, and there it is taken or has gone.
-/

namespace Sys2Proof.Proofs.Interrupts

open Sys2Proof Sys2Proof.Machine Sys2Proof.Proofs.Sequencing Sys2Proof.Proofs.BufferAgent
open Sys2Proof.Proofs.StoppedComputer Sys2Proof.Proofs.Boundaries

/-! ### The request and the clock -/

theorem any_iff (r : PerChannel) : r.any = true ↔ ∃ c, r.get c = true := by
  simp only [PerChannel.any, Bool.or_eq_true]
  constructor
  · rintro (((((h | h) | h) | h) | h) | h)
    exacts [⟨.c1, h⟩, ⟨.c2, h⟩, ⟨.c3, h⟩, ⟨.c4, h⟩, ⟨.c5, h⟩, ⟨.c6, h⟩]
  · rintro ⟨c, h⟩
    cases c <;> simp only [PerChannel.get] at h <;> simp [h]

/-- The channels that ask for an interrupt by being inactive. -/
def selectedInactive (s : State) : PerChannel :=
  ⟨s.intr.selInactive.c1 && !s.chan.active.c1, s.intr.selInactive.c2 && !s.chan.active.c2,
    s.intr.selInactive.c3 && !s.chan.active.c3, s.intr.selInactive.c4 && !s.chan.active.c4,
    s.intr.selInactive.c5 && !s.chan.active.c5, s.intr.selInactive.c6 && !s.chan.active.c6⟩

theorem selectedInactive_get (s : State) (c : Channel) :
    (selectedInactive s).get c = (s.intr.selInactive.get c && !s.chan.active.get c) := by
  cases c <;> rfl

theorem interruptRequest_eq (s : State) :
    s.interruptRequest = ((selectedInactive s).any ||
      (s.intr.selArith && (s.ind.divide || s.ind.shift || s.ind.overflow)) || s.intr.rtcRequest ||
      (s.con.readerSelected && s.con.selReaderEotInt && s.con.readerEot) || s.env.interrupt.any) := rfl

/-- A pulse of the clock counts where the clock is selected and either pulses are latched or the interrupt could be taken
now. -/
theorem apply_clockPulse {s : State} {b : Bool}
    (h : (s.intr.selRtc && (s.inst.rtcPulseLatched || (decide (s.panel.run = .running) && !s.intr.lockout))) = b) :
    s.apply .clockPulse = .next { s with intr := { s.intr with rtcRequest := s.intr.rtcRequest || b } } := by
  subst h
  rfl

/-! ### The entry -/

theorem interruptDue_of {s : State} (h : s.interruptRequest = true) (hl : s.intr.lockout = false) :
    s.interruptDue = true := by
  rw [State.interruptDue, h, hl]
  rfl

/-- After the entry the instruction at 00017 is executed. -/
theorem proceed_entered {s : State} {w : Word} (hr : s.panel.run = .running) (hp : s.panel.slsPending = false)
    (hu : (s.panel.stepOne && s.panel.uSet) = false) (hw : (entered s).Reads 0o17 w) :
    (entered s).proceed = andThen (exec (decode w) { entered s with u := w, panel := { s.panel with uSet := false } })
      fun t => .next (t.finish 0o17) :=
  proceed_fetch (s := entered s) hr hp hu hw

/-- Settles O53. -/
theorem interruptIsEntered : Obligations.InterruptIsEntered := by
  refine ⟨fun s => ⟨?_, fun hs ht => ?_, fun h => ?_⟩, fun s ha hreq hlock hlate => ?_⟩
  · simp only [interruptRequest_eq, any_iff, selectedInactive_get, Bool.or_eq_true, Bool.and_eq_true,
      Bool.not_eq_true', or_assoc, and_assoc]
  · rw [apply_clockPulse (b := true) (by simpa [hs] using ht), Bool.or_true]
  · have hb : (s.intr.selRtc && (s.inst.rtcPulseLatched || (decide (s.panel.run = .running) && !s.intr.lockout))) =
        false := by
      rcases h with hs | ht
      · rw [hs, Bool.false_and]
      · refine Bool.and_eq_false_imp.2 fun _ => Bool.eq_false_iff.2 fun hb => ht ?_
        simpa using hb
    rw [apply_clockPulse hb, Bool.or_false]
  · have hdue : s.interruptDue = true := interruptDue_of hreq hlock
    refine ⟨entered s.popBoundary, State.storedAt_write rfl, rfl, fun hf he w hw => ?_, fun hr hp he w hw => ?_,
      fun hr hp he w hw => ?_⟩
    · obtain ⟨hr, hp, hu⟩ := hf
      rw [step_of_no_event he ha, pass_taken (s := s.popBoundary) (State.between_iff.2 ⟨hr, hp⟩) hdue hlate,
        andThen_next]
      exact proceed_entered hr hp hu hw
    · rw [step_of_event he (apply_start _) ha, pass_taken (s := s.popBoundary.setPanel (started s.popBoundary.panel))
        (State.between_iff.2 ⟨rfl, hp⟩) hdue hlate, andThen_next]
      exact proceed_entered rfl hp rfl hw
    · rw [step_of_event he (apply_step_stopped hr) ha,
        pass_taken (s := s.popBoundary.setPanel (stepping s.popBoundary.panel)) (State.between_iff.2 ⟨rfl, hp⟩) hdue
          hlate, andThen_next]
      rcases hw with ⟨hu, rfl⟩ | ⟨hu, hw⟩
      · exact proceed_operator rfl hp rfl hu
      · exact proceed_entered rfl hp hu hw

/-! ### The bound on the delay -/

theorem manual_nextIn {s t : State} {P : State → Prop} (h : P t) : NextIn (s.manual t) P := by
  unfold State.manual
  split
  · exact .refused _
  · exact .next h

theorem manualControl_nextIn {s t : State} {P : State → Prop} (h : P t) : NextIn (s.manualControl t) P := by
  unfold State.manualControl
  split
  · exact .refused _
  · split
    · exact .refused _
    · exact .next h

/-- Of the events only the internal master clear forgets that an interrupt was put off. -/
theorem apply_keeps_deferred (s : State) {e : Event} (he : e ≠ .clearInternal) :
    NextIn (s.apply e) fun t => t.intr.deferred = s.intr.deferred := by
  cases e with
  | transfer x => exact fun t ht => by rw [(serve_attended ht).frame]
  | clearInternal => exact absurd rfl he
  | step =>
    refine .next ?_
    unfold State.stepKey
    cases s.panel.run <;> rfl
  | setA | setQ | setB => exact manual_nextIn rfl
  | setP | setU => exact manualControl_nextIn rfl
  | _ => exact .next rfl

theorem applyAll_keeps_deferred (s : State) {es : List Event} (hes : .clearInternal ∉ es) :
    NextIn (s.applyAll es) fun t => t.intr.deferred = s.intr.deferred := by
  induction es generalizing s with
  | nil => exact .next rfl
  | cons e es ih =>
    obtain ⟨he, hes⟩ := not_or.1 (mt List.mem_cons.2 hes)
    exact .andThen <| (apply_keeps_deferred s (Ne.symm he)).mono fun s1 h1 => (ih s1 hes).mono fun _ h => h.trans h1

/-- What looking at the interrupt does. -/
theorem recognize_cases {s t : State} {late : Bool} (h : s.recognize late = .next t) :
    (s.interruptDue = true ∧ t = entered s) ∨
      ((s.interruptDue = false ∨ (late = true ∧ s.intr.deferred = false)) ∧ t = s) := by
  cases hd : s.interruptDue with
  | false =>
    rw [State.recognize_passed (.inl hd)] at h
    exact .inr ⟨.inl rfl, (Host.Outcome.next.inj h).symm⟩
  | true =>
    by_cases hl : late = false ∨ s.intr.deferred = true
    · rw [State.recognize_taken hd hl, interruptEntry_entered] at h
      exact .inl ⟨rfl, (Host.Outcome.next.inj h).symm⟩
    · obtain ⟨hlate, hdef⟩ := not_or.1 hl
      have hput : late = true ∧ s.intr.deferred = false :=
        ⟨Bool.eq_true_of_not_eq_false hlate, Bool.eq_false_iff.2 hdef⟩
      rw [State.recognize_passed (.inr hput)] at h
      exact .inr ⟨.inr hput, (Host.Outcome.next.inj h).symm⟩

theorem recognize_panel {s t : State} {late : Bool} (h : s.recognize late = .next t) : t.panel = s.panel := by
  rcases recognize_cases h with ⟨-, rfl⟩ | ⟨-, rfl⟩ <;> rfl

/-- What the end of a boundary does. -/
theorem settle_cases {s t : State} (h : s.settle = .next t) :
    (s.interruptDue = true ∧ t = entered s) ∨
      ((s.interruptDue = false ∨ s.intr.deferred = false) ∧
        t = { s with intr := { s.intr with deferred := s.interruptDue } }) := by
  obtain ⟨s1, h1, h2⟩ := andThen_eq_next.1 h
  obtain rfl := Host.Outcome.next.inj h2
  rcases recognize_cases h1 with ⟨hd, rfl⟩ | ⟨hd, rfl⟩
  · refine .inl ⟨hd, ?_⟩
    rw [interruptDue_entered]
    rfl
  · exact .inr ⟨hd.imp id And.right, rfl⟩

/-- After it `deferred` says whether the condition holds. -/
theorem settle_deferred {s t : State} (h : s.settle = .next t) : t.intr.deferred = t.interruptDue := by
  rcases settle_cases h with ⟨-, rfl⟩ | ⟨-, rfl⟩
  · exact (interruptDue_entered s).symm
  · rfl

theorem settle_panel {s t : State} (h : s.settle = .next t) : t.panel = s.panel := by
  rcases settle_cases h with ⟨-, rfl⟩ | ⟨-, rfl⟩ <;> rfl

/-- The lockout that the entry sets, or an interrupt put off before, leaves none due. -/
theorem settle_none_due {s t : State} (hs : s.intr.lockout = true ∨ s.intr.deferred = true) (h : s.settle = .next t) :
    t.interruptDue = false := by
  rcases settle_cases h with ⟨-, rfl⟩ | ⟨hd, rfl⟩
  · exact interruptDue_entered s
  · rcases hs with hl | hf
    · show (s.interruptRequest && !s.intr.lockout) = false
      rw [hl]
      exact Bool.and_false _
    · exact hd.resolve_right (by rw [hf]; exact Bool.noConfusion)

/-- Where the program is and whether it is locked out, unless the interrupt is entered. -/
def SamePlaceOrEntered (s t : State) : Prop :=
  (t.p = s.p ∧ t.intr.lockout = s.intr.lockout) ∨ (t.p = 0o17 ∧ t.intr.lockout = true)

theorem SamePlaceOrEntered.trans {s t v : State} (h : SamePlaceOrEntered s t) (k : SamePlaceOrEntered t v) :
    SamePlaceOrEntered s v := by
  rcases k with ⟨hp, hl⟩ | k
  · rcases h with ⟨hp', hl'⟩ | ⟨hp', hl'⟩
    · exact .inl ⟨hp.trans hp', hl.trans hl'⟩
    · exact .inr ⟨hp.trans hp', hl.trans hl'⟩
  · exact .inr k

theorem serveAll_p {s t : State} {ts : List Transfer} (h : s.serveAll ts = .next t) : t.p = s.p := by
  rw [(serveAll_attended h).frame]

theorem serveAll_intr {s t : State} {ts : List Transfer} (h : s.serveAll ts = .next t) : t.intr = s.intr := by
  rw [(serveAll_attended h).frame]

theorem serveAll_same_place {s t : State} {ts : List Transfer} (h : s.serveAll ts = .next t) :
    SamePlaceOrEntered s t :=
  .inl ⟨serveAll_p h, congrArg InterruptControl.lockout (serveAll_intr h)⟩

theorem recognize_place {s t : State} {late : Bool} (h : s.recognize late = .next t) : SamePlaceOrEntered s t := by
  rcases recognize_cases h with ⟨-, rfl⟩ | ⟨-, rfl⟩
  · exact .inr ⟨rfl, rfl⟩
  · exact .inl ⟨rfl, rfl⟩

theorem settle_place {s t : State} (h : s.settle = .next t) : SamePlaceOrEntered s t := by
  rcases settle_cases h with ⟨-, rfl⟩ | ⟨-, rfl⟩
  · exact .inr ⟨rfl, rfl⟩
  · exact .inl ⟨rfl, rfl⟩

/-- A boundary after which the program goes on: its events, the look at the interrupt, the buffer requests served after it
and the end, all of them between two instructions. -/
theorem passBoundary_between {s t : State} {x : Boundary} (h : s.passBoundary x = .next t) (hb : t.between = true) :
    ∃ s1 s2 s3, s.applyAll x.events = .next s1 ∧ s1.recognize x.late = .next s2 ∧ s2.serveAll x.after = .next s3 ∧
      s3.settle = .next t := by
  obtain ⟨s1, h1, h⟩ := andThen_eq_next.1 h
  obtain ⟨s2, h2, h⟩ := andThen_eq_next.1 h
  obtain ⟨s3, h3, h4⟩ := andThen_eq_next.1 h
  have between_eq {u v : State} (h : v.panel = u.panel) : v.between = u.between := by rw [State.between, h]; rfl
  have hb3 : s3.between = true := by
    cases hs : s3.between with
    | true => rfl
    | false =>
      rw [State.closeBoundary_outside hs] at h4
      rw [← hs, ← hb, Host.Outcome.next.inj h4]
  have hb2 : s2.between = true := (between_eq (serveAll_panel h3)).symm.trans hb3
  have hb1 : s1.between = true := by
    cases hs : s1.between with
    | true => rfl
    | false =>
      rw [State.scanInterrupt, hs, if_neg Bool.false_ne_true] at h2
      rw [← hs, ← hb2, Host.Outcome.next.inj h2]
  rw [State.scanInterrupt, if_pos hb1] at h2
  rw [State.closeBoundary, if_pos hb3] at h4
  exact ⟨s1, s2, s3, h1, h2, h3, h4⟩

/-- An interrupt that was put off is taken where the boundary looks at it, or is still put off there, none being due. -/
theorem recognize_of_deferred {s t : State} {late : Bool} (hs : s.intr.deferred = true)
    (h : s.recognize late = .next t) : t.intr.lockout = true ∨ t.intr.deferred = true := by
  rcases recognize_cases h with ⟨-, rfl⟩ | ⟨-, rfl⟩
  · exact .inl rfl
  · exact .inr hs

/-- Settles O54. -/
theorem interruptIsPutOffOnce : Obligations.InterruptIsPutOffOnce := by
  refine ⟨fun s t x h hr hp => ?_, fun s w hf he ha hd hl hdef hw => ⟨?_, fun late => ?_⟩⟩
  · obtain ⟨s1, s2, s3, h1, h2, h3, h4⟩ := passBoundary_between h (State.between_iff.2 ⟨hr, hp⟩)
    refine ⟨settle_deferred h4, fun hdef hclear => ?_, fun ts hts _ => ?_⟩
    · have hdef1 : s1.intr.deferred = true := (applyAll_keeps_deferred s hclear s1 h1).trans hdef
      exact settle_none_due (serveAll_intr h3 ▸ recognize_of_deferred hdef1 h2) h4
    · rw [hts, applyAll_transfers] at h1
      exact (serveAll_same_place h1).trans <| (recognize_place h2).trans <| (serveAll_same_place h3).trans
        (settle_place h4)
  · obtain ⟨hr, hp, hu⟩ := hf
    rw [step_of_no_event he ha, hl, pass_putOff (s := s.popBoundary) (State.between_iff.2 ⟨hr, hp⟩) hd hdef,
      andThen_next]
    exact proceed_fetch hr hp hu hw
  · exact State.recognize_taken hd (.inr rfl)

/-! ### The master clears -/

/-- Settles O56. -/
theorem masterClearsAndReset : Obligations.MasterClearsAndReset := by
  refine ⟨fun s => ⟨?_, ?_⟩, ?_⟩
  · exact ⟨rfl, rfl, rfl, rfl, rfl, rfl, rfl, rfl, rfl, rfl, rfl, rfl, rfl, rfl, rfl, rfl, rfl, rfl⟩
  · exact ⟨rfl, rfl, rfl, rfl, rfl, rfl, rfl, rfl, rfl, rfl, rfl, rfl, rfl, rfl, rfl, rfl, rfl, rfl, rfl, rfl, rfl, rfl⟩
  · rintro s t (rfl | rfl) <;>
      exact ⟨rfl, rfl, rfl, rfl, rfl, rfl, rfl, rfl, rfl, rfl, rfl, rfl, rfl, rfl, rfl, rfl, rfl, rfl, rfl, rfl⟩

end Sys2Proof.Proofs.Interrupts
end
